-- ==== Sys2Proof/Word.lean ====
section
/-!
DEFINITION. The plain data types every rule uses (spec 00_scope R9, R13; 10_state R24, R32): bytes, times, cells, grids,
channels, units and the 2-bit dispatcher opcode.
-/

namespace Sys2Proof

/-- A byte, 0x00..0xFF (R13). -/
abbrev Byte := BitVec 8

/-- A line: the bytes of one line without its terminator LF (R13). -/
abbrev Line := List Byte

/-- A time. Every value the machine stores is below `2 ^ TIME_WIDTH` (R9, R13); `State.clock` wraps the NOW port. -/
abbrev Time := Nat

/-- CELL_DOTS, fixed (R9). -/
def CELL_DOTS : Nat := 6
/-- GRID_CELLS, fixed (R9). -/
def GRID_CELLS : Nat := 12
/-- PAYLOAD_BITS = GRID_CELLS * CELL_DOTS, fixed (R9). -/
def PAYLOAD_BITS : Nat := GRID_CELLS * CELL_DOTS
/-- FRAME_CHARS: one header and the payload, the terminator not counted, fixed (R9, R80). -/
def FRAME_CHARS : Nat := 1 + PAYLOAD_BITS
/-- PERM, fixed (R9): element `k` of the transmitted order is logical dot `PERM[k]` (R110). -/
def PERM : List Nat := [0, 3, 1, 4, 2, 5]
/-- INV, the inverse of PERM (R111): `INV[PERM[k]] = k`. -/
def INV : List Nat := [0, 2, 4, 1, 3, 5]

/-- One braille character's six dots in logical order: element `j` is dot `d(j+1)` (R13). -/
structure Cell where
  d1 : Bool
  d2 : Bool
  d3 : Bool
  d4 : Bool
  d5 : Bool
  d6 : Bool
  deriving DecidableEq, Repr, Inhabited

/-- Element `j` of a cell in logical order; `false` outside 0..5. -/
def Cell.dot (d : Cell) : Nat → Bool
  | 0 => d.d1
  | 1 => d.d2
  | 2 => d.d3
  | 3 => d.d4
  | 4 => d.d5
  | 5 => d.d6
  | _ => false

/-- The empty cell `Z`. -/
def Cell.zero : Cell := ⟨false, false, false, false, false, false⟩

/-- Six bits in transmitted order, element 0 first on the wire (R60, R110). -/
structure SentCell where
  t0 : Bool
  t1 : Bool
  t2 : Bool
  t3 : Bool
  t4 : Bool
  t5 : Bool
  deriving DecidableEq, Repr, Inhabited

/-- Element `k` of the transmitted order; `false` outside 0..5. -/
def SentCell.bit (t : SentCell) : Nat → Bool
  | 0 => t.t0
  | 1 => t.t1
  | 2 => t.t2
  | 3 => t.t3
  | 4 => t.t4
  | 5 => t.t5
  | _ => false

/-- The six bits as a sequence, first on the wire first. -/
def SentCell.bits (t : SentCell) : List Bool := [t.t0, t.t1, t.t2, t.t3, t.t4, t.t5]

/-- A Grid: exactly 12 Cells, cell 0 first (R13). -/
structure Grid where
  cells : List Cell
  length_eq : cells.length = 12
  deriving DecidableEq, Repr

/-- `G0`, the all-zero Grid (R96). -/
def Grid.zero : Grid := ⟨List.replicate 12 Cell.zero, rfl⟩

/-- Cell `c` of a grid; the empty cell outside 0..11. -/
def Grid.cell (g : Grid) (c : Nat) : Cell := g.cells.getD c Cell.zero

/-- A Grade, 1 or 2 (R13), held as one bit G2 (R32). -/
inductive Grade where
  | grade1
  | grade2
  deriving DecidableEq, Repr

/-- The bit G2 that holds the grade: 1 = grade 2 (R32). -/
def Grade.g2 : Grade → Bool
  | .grade1 => false
  | .grade2 => true

/-- An alert label (R9, R13, R34): opaque to the BBC, which only stores it and passes it to TRANSLATE. It is named by its
place in an enumeration of the type Label, which is an argument of the model (`Config.LabelType`; log 14). -/
structure Label where
  index : Nat
  deriving DecidableEq, Repr, Inhabited

/-- The two units (R2, R284). -/
inductive UnitId where
  | du
  | host
  deriving DecidableEq, Repr, Inhabited

/-- The two links (R8): `hd` carries bytes from HOST to DU, `dh` from DU to HOST. -/
inductive Link where
  | hd
  | dh
  deriving DecidableEq, Repr, Inhabited

/-- The three button channels (R24, R140): 0 SEND, 1 MODE, 2 NEXT. -/
inductive Channel where
  | send
  | mode
  | next
  deriving DecidableEq, Repr

/-- The channel's index (R140). -/
def Channel.index : Channel → Nat
  | .send => 0
  | .mode => 1
  | .next => 2

/-- One value for each channel: `x[i]` of the rules. -/
structure ByChannel (α : Type) where
  send : α
  mode : α
  next : α
  deriving DecidableEq, Repr

/-- `x[i]`. -/
def ByChannel.get {α : Type} (x : ByChannel α) : Channel → α
  | .send => x.send
  | .mode => x.mode
  | .next => x.next

/-- `x[i] <- v`. -/
def ByChannel.set {α : Type} (x : ByChannel α) (i : Channel) (v : α) : ByChannel α :=
  match i with
  | .send => { x with send := v }
  | .mode => { x with mode := v }
  | .next => { x with next := v }

/-- The dispatcher's opcode (R86), a closed enumeration. -/
inductive Opcode where
  | idle
  | send
  | grade2
  | grade1
  deriving DecidableEq, Repr

/-- The two bits `op[1:0]` of an opcode (R86). -/
def Opcode.code : Opcode → BitVec 2
  | .idle => 0#2
  | .send => 1#2
  | .grade2 => 2#2
  | .grade1 => 3#2

end Sys2Proof
end

