-- ==== Sys2Proof/Config.lean ====
section
/-!
DEFINITION. What an implementation fixes (the parameters of spec 00_scope R9) and the free values: constants without a
body, so that no proof can see what they are. The fixed parameters (CELL_DOTS, GRID_CELLS, PAYLOAD_BITS, FRAME_CHARS, PERM)
stand in Sys2Proof/Word.lean.
-/

namespace Sys2Proof.Config

/-- SETTLE_SCOPE (R9, R142, R143). -/
inductive SettleScope where
  | perChannel
  | global
  deriving DecidableEq, Repr

/-- FIFO_DEPTH (R9, R170): a bound, or UNBOUNDED. -/
inductive FifoDepth where
  | bounded (n : Nat)
  | unbounded
  deriving DecidableEq, Repr

/-- LINK_CORRUPTION (R9, R66). -/
inductive LinkCorruption where
  | none
  | any
  deriving DecidableEq, Repr, Inhabited

/-- The type Label, OPEN (R9): a type of `n + 1` values, or one with a value for every natural number. No rule looks inside
a label, so a type is given by how many values it has (log 14). -/
inductive LabelType where
  | upTo (n : Nat)
  | countable
  deriving DecidableEq, Repr, Inhabited

/-- The parameters that are not fixed (R9), as the argument of a model instance; TRANSLATE, a function, is `translate`. They
stand in `State.cfg`, which no step changes (R43; log 1), so that a claim about every state is a claim about every instance.
`timeUnit` is in microseconds; no rule reads N_CHANNELS, TIME_UNIT or BAUD (log 26, log 29). -/
structure Params where
  nChannels : Nat
  timeWidth : Nat
  timeUnit : Nat
  settleTime : Nat
  settleScope : SettleScope
  tickInterval : Nat
  idleRecalInterval : Nat
  fifoDepth : FifoDepth
  linkCorruption : LinkCorruption
  baud : Nat
  labels : LabelType
  deriving DecidableEq, Repr

/-- The bounds R9 puts on the parameters ("any value ≥ 1"). -/
abbrev Params.wf (p : Params) : Prop :=
  1 ≤ p.settleTime ∧ 1 ≤ p.tickInterval ∧ 1 ≤ p.idleRecalInterval ∧
    (match p.fifoDepth with | .bounded n => 1 ≤ n | .unbounded => True)

/-- IDLE_RECAL_INTERVAL less 1. OPEN (R9, R208): a free value, so the interval itself is any value ≥ 1 (log 2). -/
opaque idleRecalIntervalLessOne : Nat

/-- LINK_CORRUPTION. OPEN (R9, R66): a free value (log 2). -/
opaque linkCorruption : LinkCorruption

/-- The type Label. OPEN (R9): a free value (log 2, log 14). -/
opaque labels : LabelType

/-- The parameters of `State.reset`: the defaults and reference values of R9, and free values for the OPEN parameters
(log 2). -/
def params : Params where
  nChannels := 3
  timeWidth := 32
  timeUnit := 1000
  settleTime := 100
  settleScope := .perChannel
  tickInterval := 500
  idleRecalInterval := idleRecalIntervalLessOne + 1
  fifoDepth := .bounded 16
  linkCorruption := linkCorruption
  baud := 115200
  labels := labels

/-- TRANSLATE, the external text-to-cell translators (R9, R216). OPEN: a free value (log 25). -/
opaque translate : Grade → Label → List Cell

/-- ENV's answer to one transport write (R241): it succeeds, or `n` bytes reach the wire before it fails. -/
inductive WriteAnswer where
  | ok
  | failed (n : Nat)
  deriving DecidableEq, Repr, Inhabited

/-- ENV's answer to a transport write for which `State.env.answers` holds none: a free value (R250; log 7). -/
opaque writeAnswer : Nat → WriteAnswer

/-- The label HOST.mailbox holds after a RESET command, which R44 leaves unspecified: a free value (log 5). -/
opaque unspecifiedLabel : Nat → Label

/-- A step that an agent takes of its own accord (R8, R247, R250), with what ENV supplies to it: the DU's loop, the host's
loop (the capture's answer is used only while HOST.phase = CAPTURE), the alert source, a link, or a unit's reset. -/
inductive LoopTurn where
  | du (now : Time) (pins : BitVec 3)
  | host (now : Time) (err : Bool) (cells : List Cell)
  | alert (label : Label)
  | link (l : Link) (noise : Option Byte)
  | reset (u : UnitId) (now : Time) (openOk : Bool)
  deriving DecidableEq, Repr, Inhabited

/-- Which agent steps next when no turn is scheduled, and what ENV supplies to it: a free value (R70, R250; log 6). -/
opaque loopTurn : Nat → LoopTurn

end Sys2Proof.Config
end

