-- ==== Sys2Proof/Syntax.lean ====
section
/-!
DEFINITION. The instructions: one constructor for each row of spec/opcode_table.json, with its operands, and the form in
which an instruction stands at a port (spec 30_encoding R80, R84, R86, R91, R92). The pseudo-commands of R97.
-/

namespace Sys2Proof

/-- The instructions. An operand is a field of the command word (R91, R94) or a data port the row reads (R92); commands
that both units accept carry the unit at whose port they stand. -/
inductive Instr where
  /-- NOP (R245). -/
  | nop (u : UnitId)
  /-- ENCODE: HDR and GRID_IN (R113). -/
  | encode (u : UnitId) (hdr : Bool) (grid : Grid)
  /-- NORMALIZE: CELLS_IN (R114). -/
  | normalize (u : UnitId) (cells : List Cell)
  /-- DECODE: LINE_IN (R115). -/
  | decode (u : UnitId) (line : Line)
  /-- PUSH_BACK: GRID_IN (R171). -/
  | pushBack (grid : Grid)
  /-- PUSH_FRONT: GRID_IN (R172). -/
  | pushFront (grid : Grid)
  /-- PEEK (R173). -/
  | peek
  /-- ADVANCE: CONSUME (R174). -/
  | advance (consume : Bool)
  /-- POLL: CH, PIN and NOW (R141). CH = 3 is ill-formed (R93). -/
  | poll (ch : BitVec 2) (pin : Bool) (now : Time)
  /-- TICK_CHECK: NOW (R230). -/
  | tickCheck (now : Time)
  /-- ALERT_POST: LABEL_IN (R207). -/
  | alertPost (label : Label)
  /-- HOST_POLL: NOW (R209). -/
  | hostPoll (now : Time)
  /-- CAPTURE_DONE: ERR, CELLS_IN and NOW (R210). -/
  | captureDone (err : Bool) (cells : List Cell) (now : Time)
  /-- DU_POLL: NOW and PINS_IN, where PINS_IN[i] is the pin level of channel i (R244). -/
  | duPoll (now : Time) (pins : BitVec 3)
  /-- RX_FRAME: LINE_IN (R117). -/
  | rxFrame (line : Line)
  /-- RESET: NOW and OPEN_OK (R246). -/
  | reset (u : UnitId) (now : Time) (openOk : Bool)
  /-- OP_IDLE, opcode 00, with the `now` of its poll (R205). -/
  | opIdle (now : Time)
  /-- OP_SEND, opcode 01 (R202). -/
  | opSend (now : Time)
  /-- OP_GRADE2, opcode 10 (R203). -/
  | opGrade2 (now : Time)
  /-- OP_GRADE1, opcode 11 (R204). -/
  | opGrade1 (now : Time)
  /-- FRAME_ORDINARY, a frame with header '0' received by the DU (R80, R117). -/
  | frameOrdinary (grid : Grid)
  /-- FRAME_ALERT, a frame with header '1' received by the DU (R80, R117). -/
  | frameAlert (grid : Grid)
  /-- CTRL_SEND, the control line SEND received by the host (R84, R200, R202). -/
  | ctrlSend (now : Time)
  /-- CTRL_TRUE, the control line True (R84, R200, R203). -/
  | ctrlTrue (now : Time)
  /-- CTRL_FALSE, the control line False (R84, R200, R204). -/
  | ctrlFalse (now : Time)
  deriving DecidableEq, Repr

/-- The data ports of a command (R91). A port an instruction does not read stands at zero in its encoding. -/
structure Inputs where
  grid : Grid := Grid.zero
  cells : List Cell := []
  line : Line := []
  label : Label := ⟨0⟩
  now : Time := 0
  pins : BitVec 3 := 0#3
  openOk : Bool := false
  deriving DecidableEq, Repr

/-- What stands at a port, before it is decoded: a command word with its data ports at a unit's command port (R89), a
2-bit opcode at the dispatcher's input (R86), or one complete line, without its LF, at a unit's receiver (R85). -/
inductive Presented where
  | command (u : UnitId) (cw : BitVec 16) (d : Inputs)
  | opcode (op : BitVec 2) (d : Inputs)
  | line (u : UnitId) (l : Line) (d : Inputs)
  deriving DecidableEq, Repr

/-- The unit at which it stands; the dispatcher is the host's (R86). -/
def Presented.unit : Presented → UnitId
  | .command u _ _ => u
  | .opcode _ _ => .host
  | .line u _ _ => u

/-- The channel number in a command word's CH field (R91, R94). -/
def Channel.field : Channel → BitVec 2
  | .send => 0#2
  | .mode => 1#2
  | .next => 2#2

/-- `PRESS ch, t` (R97). -/
def pseudoPress (ch : Channel) (t : Time) : Instr := .poll ch.field false t
/-- `RELEASE ch, t` (R97). -/
def pseudoRelease (ch : Channel) (t : Time) : Instr := .poll ch.field true t
/-- `CONSUME` (R97). -/
def pseudoConsume : Instr := .advance true
/-- `SHOW` (R97). -/
def pseudoShow : Instr := .advance false

end Sys2Proof
end

