-- ==== Sys2Proof/Machine/State.lean ====
section
/-!
DEFINITION. The state of the BBC (spec 10_state), as plain data, and the state after power-on (R44, R300). The fields `cfg`,
`env` and `out` are the model's own: the parameters, what issuers and ENV have already fixed, and the result ports.
-/

namespace Sys2Proof.Machine

/-- DU.ch[i].phase (R24). -/
inductive Phase where
  | released
  | pressed
  deriving DecidableEq, Repr

/-- DU.ch[i] (R24). `raw`: true = 1 = inactive. -/
structure ChannelState where
  phase : Phase
  raw : Bool
  settling : Bool
  settleStart : Time
  deriving DecidableEq, Repr

/-- DU.gsettle (R25). -/
structure GlobalSettle where
  active : Bool
  start : Time
  deriving DecidableEq, Repr

/-- DU.run and HOST.run (R31, R38). -/
inductive Run where
  | running
  | fatal
  deriving DecidableEq, Repr

/-- HOST.phase (R33). -/
inductive HostPhase where
  | polling
  | capture
  deriving DecidableEq, Repr

/-- HOST.mailbox (R34). `label` means nothing while `pending` is false. -/
structure Mailbox where
  pending : Bool
  label : Label
  deriving DecidableEq, Repr

/-- The end of the FIFO at which it overflowed (R270). -/
inductive FifoEnd where
  | back
  | front
  deriving DecidableEq, Repr

/-- The error kinds (R270). The info FifoOverflow records stands in it (log 19); MalformedFrame's is in LOG_MALFORMED. -/
inductive ErrorKind where
  | malformedFrame
  | transportWriteFailure
  | recognitionError
  | fifoOverflow (at_ : FifoEnd)
  | illegalCommand
  | initFailure
  deriving DecidableEq, Repr

/-- The output events (R14). `render none` is RENDER(EMPTY). -/
inductive Event where
  | tx (bytes : List Byte)
  | buzz
  | render (front : Option Grid)
  | renderMode (flag : Bool)
  | logMalformed (line : Line)
  | captureStart
  | recalRequest
  | error (k : ErrorKind)
  deriving DecidableEq, Repr

/-- A unit's result ports (R91), each `none` while it is not valid (log 9). OPCODE is a view of HOST.last_op (R39). -/
structure Results where
  frameOut : Option (List Byte) := none
  gridOut : Option Grid := none
  ok : Option Bool := none
  hdrOut : Option Bool := none
  frontValid : Option Bool := none
  front : Option Grid := none
  pulse : Option Bool := none
  fire : Option Bool := none
  deriving DecidableEq, Repr

/-- The DU state record (R23 to R31), its event trace (R41) and its result ports (R91). -/
structure DuState where
  fifo : List Grid
  ch : ByChannel ChannelState
  gsettle : GlobalSettle
  pulse : ByChannel Bool
  modeFlag : Bool
  tickLastFire : Time
  rxBuf : List Byte
  status : BitVec 8
  run : Run
  trace : List Event
  out : Results
  deriving DecidableEq, Repr

/-- The HOST state record (R32 to R39), its event trace (R41) and its result ports (R91). -/
structure HostState where
  grade : Grade
  phase : HostPhase
  mailbox : Mailbox
  idleStart : Time
  rxBuf : List Byte
  status : BitVec 8
  run : Run
  lastOp : Opcode
  trace : List Event
  out : Results
  deriving DecidableEq, Repr

/-- One atomic step of one agent (R8): an instruction presented at a port, or a LINK step, with the byte ENV would deliver
in place of the one it moves. -/
inductive Turn where
  | present (p : Presented)
  | link (l : Link) (noise : Option Byte)
  deriving DecidableEq, Repr

/-- The model's own: the turns still to come that are already fixed (the interleaving of R70), the answers to transport
writes that are already fixed (R241), and the counter that the free values of Config are applied to. -/
structure EnvState where
  schedule : List Turn
  answers : List Config.WriteAnswer
  draws : Nat
  deriving DecidableEq, Repr

/-- The state of the BBC (R20). -/
structure State where
  du : DuState
  host : HostState
  linkHD : List Byte
  linkDH : List Byte
  cfg : Config.Params
  env : EnvState
  deriving DecidableEq, Repr

/-- Why the machine stops with a fault. The BBC has no trap and no access that does not exist (R63, R277), every error of the
spec is recorded and the machine goes on, so there is no constructor (log 18). -/
inductive Fault where
  deriving DecidableEq, Repr

/-- Why an instruction has no meaning. -/
inductive Refusal where
  /-- An arm of `exec` whose instruction has no meaning yet. Safe: nothing can be proved of what it does. No arm of this
  model raises it. -/
  | notModelled (mnemonic : String)
  deriving DecidableEq, Repr

/-- The machine after power-on (R44, R300): both units reset, links and traces empty. DESIGN CHOICE, unsafe: the resets' NOW
is 0 and both transports opened (log 4), and the mailbox's unspecified label is the first of its type (log 5). -/
def State.reset : State where
  du := {
    fifo := []
    ch := ⟨⟨.released, true, false, 0⟩, ⟨.released, true, false, 0⟩, ⟨.released, true, false, 0⟩⟩
    gsettle := ⟨false, 0⟩
    pulse := ⟨false, false, false⟩
    modeFlag := false
    tickLastFire := 0
    rxBuf := []
    status := 0x00#8
    run := .running
    trace := []
    out := {} }
  host := {
    grade := .grade1
    phase := .polling
    mailbox := ⟨false, ⟨0⟩⟩
    idleStart := 0
    rxBuf := []
    status := 0x00#8
    run := .running
    lastOp := .idle
    trace := []
    out := {} }
  linkHD := []
  linkDH := []
  cfg := Config.params
  env := ⟨[], [], 0⟩

end Sys2Proof.Machine
end

