-- ==== Sys2Proof/Machine/Flags.lean ====
section
/-!
DEFINITION. The status bits (spec 10_state R30, R37) and the error codes and status bit of each error kind (60_exceptions
R270). The BBC has no arithmetic condition codes (R42).
-/

namespace Sys2Proof.Machine

/-- DU_STATUS.MALF (R30). -/
def DU_MALF : BitVec 8 := 0x01#8
/-- DU_STATUS.OVF (R30). -/
def DU_OVF : BitVec 8 := 0x02#8
/-- DU_STATUS.TXF (R30). -/
def DU_TXF : BitVec 8 := 0x04#8
/-- DU_STATUS.ILL (R30). -/
def DU_ILL : BitVec 8 := 0x08#8
/-- HOST_STATUS.TXF (R37). -/
def HOST_TXF : BitVec 8 := 0x01#8
/-- HOST_STATUS.RECOG (R37). -/
def HOST_RECOG : BitVec 8 := 0x02#8
/-- HOST_STATUS.ILL (R37). -/
def HOST_ILL : BitVec 8 := 0x04#8

/-- The status bit an error sets in a unit's status register; 0 where R270 gives none. -/
def errorBit : UnitId → ErrorKind → BitVec 8
  | .du, .malformedFrame => DU_MALF
  | .du, .transportWriteFailure => DU_TXF
  | .du, .fifoOverflow _ => DU_OVF
  | .du, .illegalCommand => DU_ILL
  | .du, .recognitionError => 0#8
  | .du, .initFailure => 0#8
  | .host, .transportWriteFailure => HOST_TXF
  | .host, .recognitionError => HOST_RECOG
  | .host, .illegalCommand => HOST_ILL
  | .host, .malformedFrame => 0#8
  | .host, .fifoOverflow _ => 0#8
  | .host, .initFailure => 0#8

/-- The error codes (R270). -/
def ErrorKind.code : ErrorKind → Nat
  | .malformedFrame => 1
  | .transportWriteFailure => 2
  | .recognitionError => 3
  | .fifoOverflow _ => 4
  | .illegalCommand => 5
  | .initFailure => 6

end Sys2Proof.Machine
end

