-- ==== Sys2Proof/Machine/Operands.lean ====
section
/-!
DEFINITION. How operands are read (spec 30_encoding R91, R94): the channel field, the pin levels, the time on a NOW port, the
elapsed time between two times (70_reset_and_hazards R311) and the label on a LABEL_IN port.
-/

namespace Sys2Proof.Machine

/-- The channel a CH field names; 3 names none (R91, R93, R94). -/
def channelOfField (ch : BitVec 2) : Option Channel :=
  match ch.toNat with
  | 0 => some .send
  | 1 => some .mode
  | 2 => some .next
  | _ => none

/-- PINS_IN[i], the pin level of channel `i`: true = 1 = inactive (R91, R140). -/
def pinLevel (pins : BitVec 3) (i : Channel) : Bool := pins.getLsbD i.index

/-- The time on a NOW port: TIME_WIDTH bits of the unit's time source (R248). -/
def State.clock (s : State) (now : Time) : Time := now % 2 ^ s.cfg.timeWidth

/-- The label on a LABEL_IN port: a value of the type Label, whose places are counted round (R9, R13; log 14). -/
def State.labelIn (s : State) (lab : Label) : Label :=
  match s.cfg.labels with
  | .upTo n => ⟨lab.index % (n + 1)⟩
  | .countable => lab

/-- The elapsed time `(now - start) mod 2^TIME_WIDTH` (R11, R311). -/
def elapsed (p : Config.Params) (now start : Time) : Nat :=
  (((now : Int) - (start : Int)) % ((2 ^ p.timeWidth : Nat) : Int)).toNat

end Sys2Proof.Machine
end

