-- ==== Sys2Proof/Machine/Wire.lean ====
section
/-!
DEFINITION. What travels on the link (spec 20_memory R60, R61; 30_encoding R80 to R88; 40_frame_codec R110 to R115;
43_opcode_dispatcher R200, R201; 45_transport_and_poll R243): characters, the cell reordering, frames, control lines, lines.
-/

namespace Sys2Proof.Machine

/-- LF, the line terminator (R61, R85). -/
def LF : Byte := 0x0A#8

/-- The character of a bit: '0' = 0x30, '1' = 0x31 (R61, R82, R113). -/
def chr (b : Bool) : Byte := if b then 0x31#8 else 0x30#8

/-- The characters a frame may hold (R80, R88, R115). -/
def isBitChar (c : Byte) : Bool := c == 0x30#8 || c == 0x31#8

/-- The bit of a character that `isBitChar` admits (R82, R115). -/
def bitOfChr (c : Byte) : Bool := c == 0x31#8

/-- REORDER (R110): element `k` of the transmitted order is dot `PERM[k]`. -/
def reorder (d : Cell) : SentCell where
  t0 := d.dot (PERM.getD 0 0)
  t1 := d.dot (PERM.getD 1 0)
  t2 := d.dot (PERM.getD 2 0)
  t3 := d.dot (PERM.getD 3 0)
  t4 := d.dot (PERM.getD 4 0)
  t5 := d.dot (PERM.getD 5 0)

/-- RESTORE (R111): element `j` of the logical order is transmitted element `INV[j]`. -/
def restore (t : SentCell) : Cell where
  d1 := t.bit (INV.getD 0 0)
  d2 := t.bit (INV.getD 1 0)
  d3 := t.bit (INV.getD 2 0)
  d4 := t.bit (INV.getD 3 0)
  d5 := t.bit (INV.getD 4 0)
  d6 := t.bit (INV.getD 5 0)

/-- PAYLOAD (R112): the cells' transmitted bits, cell 0 first. -/
def payload (g : Grid) : List Bool := g.cells.flatMap fun c => (reorder c).bits

/-- UNPAYLOAD (R112): cell `c` is restored from bits 6c..6c+5. -/
def unpayload : List Bool → List Cell
  | t0 :: t1 :: t2 :: t3 :: t4 :: t5 :: rest => restore ⟨t0, t1, t2, t3, t4, t5⟩ :: unpayload rest
  | _ => []

/-- NORMALIZE (R114): the first 12 cells, padded at the end with empty cells. -/
def normalizeCells (s : List Cell) : Grid where
  cells := s.take 12 ++ List.replicate (12 - min 12 s.length) Cell.zero
  length_eq := by simp

/-- The 73 characters of a frame, without its LF (R80, R113). -/
def frameLine (h : Bool) (g : Grid) : Line := chr h :: (payload g).map chr

/-- ENCODE's FRAME_OUT: the 74 bytes of a frame (R80, R113). -/
def frameBytes (h : Bool) (g : Grid) : List Byte := frameLine h g ++ [LF]

/-- DECODE's diagnostic `reason` (R115): LENGTH or CHARSET(i). No rule reads it. -/
inductive Malformed where
  | length
  | charset (i : Nat)
  deriving DecidableEq, Repr

/-- The index, counted from `i`, of the first character that is neither '0' nor '1' (R115). -/
def firstBadChar : Line → Nat → Option Nat
  | [], _ => none
  | c :: cs, i => if isBitChar c then firstBadChar cs (i + 1) else some i

/-- DECODE (R115): the header and the Grid of a valid line, or why it is malformed. -/
def decodeFrame (l : Line) : Except Malformed (Bool × Grid) :=
  if l.length ≠ FRAME_CHARS then .error .length
  else
    match firstBadChar l 0 with
    | some i => .error (.charset i)
    | none => .ok (bitOfChr (l.headD 0x30#8), normalizeCells (unpayload (l.tail.map bitOfChr)))

/-- `SEND` (R61, R84). -/
def lineSend : Line := [0x53#8, 0x45#8, 0x4E#8, 0x44#8]
/-- `True` (R61, R84). -/
def lineTrue : Line := [0x54#8, 0x72#8, 0x75#8, 0x65#8]
/-- `False` (R61, R84). -/
def lineFalse : Line := [0x46#8, 0x61#8, 0x6C#8, 0x73#8, 0x65#8]

/-- CDEC (R200): an exact match of the whole line; any other line is idle. -/
def cdec (l : Line) : Opcode :=
  if l = lineSend then .send
  else if l = lineTrue then .grade2
  else if l = lineFalse then .grade1
  else .idle

/-- The opcode of the last non-empty line, 00 if there is none (R201, R209). -/
def selectOpcode (lines : List Line) : Opcode :=
  match (lines.filter fun l => !l.isEmpty).getLast? with
  | some l => cdec l
  | none => .idle

/-- The complete lines of a receive buffer, each without its LF, and the incomplete line that stays (R243). -/
def splitLines : List Byte → List Line × List Byte
  | [] => ([], [])
  | b :: bs =>
    match splitLines bs with
    | (ls, rest) =>
      if b = LF then ([] :: ls, rest)
      else
        match ls with
        | [] => ([], b :: rest)
        | l :: ls' => ((b :: l) :: ls', rest)

end Sys2Proof.Machine
end

