-- ==== Sys2Proof/Machine/Ops.lean ====
section
/-!
DEFINITION. The named operations over the state: the reads and writes of its fields, recording an error (the BBC's only
exception, spec 60_exceptions R270, R277), the transport primitives (45_transport_and_poll R241 to R243), the LINK step
(20_memory R65, R66) and the acceptance of a command (70_reset_and_hazards R301).
-/

namespace Sys2Proof.Machine

namespace State

/-- A unit's `run`. -/
def runOf (s : State) : UnitId → Run
  | .du => s.du.run
  | .host => s.host.run

/-- A unit's receive buffer. -/
def rxBufOf (s : State) : UnitId → List Byte
  | .du => s.du.rxBuf
  | .host => s.host.rxBuf

/-- A unit's result ports. -/
def outOf (s : State) : UnitId → Results
  | .du => s.du.out
  | .host => s.host.out

/-- A link's queue (R40). -/
def linkOf (s : State) : Link → List Byte
  | .hd => s.linkHD
  | .dh => s.linkDH

/-- OPCODE, the output port that shows HOST.last_op (R39). -/
def opcodePort (s : State) : BitVec 2 := s.host.lastOp.code

/-- `DU.fifo <- x`. -/
def setFifo (s : State) (x : List Grid) : State := { s with du := { s.du with fifo := x } }
/-- `DU.ch[i] <- x`. -/
def setChannel (s : State) (i : Channel) (x : ChannelState) : State :=
  { s with du := { s.du with ch := s.du.ch.set i x } }
/-- `DU.gsettle <- x`. -/
def setGsettle (s : State) (x : GlobalSettle) : State := { s with du := { s.du with gsettle := x } }
/-- `DU.pulse[i] <- x`. -/
def setPulse (s : State) (i : Channel) (x : Bool) : State :=
  { s with du := { s.du with pulse := s.du.pulse.set i x } }
/-- `DU.mode_flag <- x`. -/
def setModeFlag (s : State) (x : Bool) : State := { s with du := { s.du with modeFlag := x } }
/-- `DU.tick_last_fire <- x`. -/
def setTickLastFire (s : State) (x : Time) : State := { s with du := { s.du with tickLastFire := x } }
/-- `HOST.grade <- x`. -/
def setGrade (s : State) (x : Grade) : State := { s with host := { s.host with grade := x } }
/-- `HOST.phase <- x`. -/
def setHostPhase (s : State) (x : HostPhase) : State := { s with host := { s.host with phase := x } }
/-- `HOST.mailbox <- x`. -/
def setMailbox (s : State) (x : Mailbox) : State := { s with host := { s.host with mailbox := x } }
/-- `HOST.idle_start <- x`. -/
def setIdleStart (s : State) (x : Time) : State := { s with host := { s.host with idleStart := x } }
/-- `HOST.last_op <- x`. -/
def setLastOp (s : State) (x : Opcode) : State := { s with host := { s.host with lastOp := x } }

/-- `rx_buf <- x` of a unit. -/
def setRxBuf (s : State) (u : UnitId) (x : List Byte) : State :=
  match u with
  | .du => { s with du := { s.du with rxBuf := x } }
  | .host => { s with host := { s.host with rxBuf := x } }

/-- Sets bits of a unit's status register; the others stay (R30, R37). -/
def orStatus (s : State) (u : UnitId) (m : BitVec 8) : State :=
  match u with
  | .du => { s with du := { s.du with status := s.du.status ||| m } }
  | .host => { s with host := { s.host with status := s.host.status ||| m } }

/-- `run <- x` of a unit. -/
def setRun (s : State) (u : UnitId) (x : Run) : State :=
  match u with
  | .du => { s with du := { s.du with run := x } }
  | .host => { s with host := { s.host with run := x } }

/-- Drives a unit's result ports. -/
def setOut (s : State) (u : UnitId) (x : Results) : State :=
  match u with
  | .du => { s with du := { s.du with out := x } }
  | .host => { s with host := { s.host with out := x } }

/-- `emit e`: appends an event to a unit's trace (R12, R14). -/
def emit (s : State) (u : UnitId) (e : Event) : State :=
  match u with
  | .du => { s with du := { s.du with trace := s.du.trace ++ [e] } }
  | .host => { s with host := { s.host with trace := s.host.trace ++ [e] } }

/-- A link's queue `<- x`. -/
def setLink (s : State) (l : Link) (x : List Byte) : State :=
  match l with
  | .hd => { s with linkHD := x }
  | .dh => { s with linkDH := x }

/-- The model's record of what issuers and ENV have fixed. -/
def setEnv (s : State) (x : EnvState) : State := { s with env := x }

end State

/-- RAISING AN ERROR, the one operation all six kinds use (R270 to R277): the kind's sticky status bit, the event ERROR(kind),
and for InitFailure `run` = FATAL. It changes no control flow and there is no return from it (R278): what the raising
primitive's rule writes on error, and what the command does after it, stand where it is called. -/
def raiseError (u : UnitId) (k : ErrorKind) (s : State) : State :=
  let s := (s.orStatus u (errorBit u k)).emit u (.error k)
  if k = .initFailure then s.setRun u .fatal else s

/-- A FATAL unit accepts no command except RESET: the command has no effect (R301, log 10). -/
def whenRunning (u : UnitId) (f : State → State) (s : State) : State :=
  match s.runOf u with
  | .running => f s
  | .fatal => s

/-- The link a unit writes (R240). -/
def outgoing : UnitId → Link
  | .du => .dh
  | .host => .hd

/-- The unit a link delivers to (R8). -/
def receiver : Link → UnitId
  | .hd => .du
  | .dh => .host

/-- ENV's answer to the next transport write: the next one already fixed, else a free value (R241, R250; log 7). -/
def nextAnswer (s : State) : Config.WriteAnswer :=
  match s.env.answers with
  | a :: _ => a
  | [] => Config.writeAnswer s.env.draws

/-- Takes that answer: it is used once. -/
def takeAnswer (s : State) : State :=
  match s.env.answers with
  | _ :: as => s.setEnv { s.env with answers := as }
  | [] => s.setEnv { s.env with draws := s.env.draws + 1 }

/-- How many of `len` bytes a failed write puts on the wire: 0..len - 1 (R241; log 21). -/
def sentBytes (n len : Nat) : Nat := n % len

/-- TX_WRITE (R241): the event TX, then all the bytes on the writer's link, or a strict prefix and TransportWriteFailure. -/
def txWrite (u : UnitId) (b : List Byte) (s : State) : State :=
  let s1 := takeAnswer (s.emit u (.tx b))
  let q := s1.linkOf (outgoing u)
  match nextAnswer s with
  | .ok => s1.setLink (outgoing u) (q ++ b)
  | .failed n =>
    raiseError u .transportWriteFailure (s1.setLink (outgoing u) (q ++ b.take (sentBytes n b.length)))

/-- RX_CHECK (R242): is a complete line waiting? -/
def rxCheck (u : UnitId) (s : State) : Bool := (s.rxBufOf u).contains LF

/-- The lines RX_DRAIN returns (R243). -/
def drainedLines (u : UnitId) (s : State) : List Line := if rxCheck u s then (splitLines (s.rxBufOf u)).1 else []

/-- What RX_DRAIN leaves: the incomplete line (R243). -/
def rxDrain (u : UnitId) (s : State) : State :=
  if rxCheck u s then s.setRxBuf u (splitLines (s.rxBufOf u)).2 else s

/-- The byte a LINK step delivers: the byte it moves, or with LINK_CORRUPTION = ANY the byte ENV puts in its place (R66). -/
def deliveredByte (s : State) (b : Byte) (noise : Option Byte) : Byte :=
  match s.cfg.linkCorruption with
  | .none => b
  | .any => noise.getD b

/-- A LINK step (R65, R66): the first byte of a non-empty queue goes to the end of the receiver's rx_buf. Bytes sent to a
FATAL unit stay in the queue (R301); with nothing to move the step changes nothing (log 15). -/
def linkStep (l : Link) (noise : Option Byte) (s : State) : State :=
  match s.runOf (receiver l), s.linkOf l with
  | .running, b :: q =>
    (s.setLink l q).setRxBuf (receiver l) (s.rxBufOf (receiver l) ++ [deliveredByte s b noise])
  | _, _ => s

end Sys2Proof.Machine
end

