-- ==== Sys2Proof/Machine/Dispatcher.lean ====
section
/-!
DEFINITION. The host (spec 43_opcode_dispatcher): the alert mailbox, the idle-recalibration timer, one effect per opcode, the
commands ALERT_POST, HOST_POLL and CAPTURE_DONE, and the opcodes and control lines as instructions.
-/

namespace Sys2Proof.Machine

/-- What ALERT_TAKE returns: the label of a pending alert (R206). -/
def pendingAlert (s : State) : Option Label :=
  if s.host.mailbox.pending then some s.host.mailbox.label else none

/-- What ALERT_TAKE clears (R206). -/
def alertTake (s : State) : State := s.setMailbox { s.host.mailbox with pending := false }

/-- ALERT_POST's effect (R207). -/
def alertPost (lab : Label) (s : State) : State := s.setMailbox { pending := true, label := lab }

/-- Is a recalibration due at `now` (R208)? -/
def recalDue (now : Time) (s : State) : Bool :=
  decide (s.cfg.idleRecalInterval ≤ elapsed s.cfg now s.host.idleStart)

/-- IDLE_CHECK (R208). -/
def idleCheck (now : Time) (s : State) : State :=
  if recalDue now s then (s.emit .host .recalRequest).setIdleStart now else s

/-- The bytes of an alert's frame at the host's grade (R205, R216). -/
def alertFrame (s : State) (lab : Label) : List Byte :=
  frameBytes true (normalizeCells (Config.translate s.host.grade lab))

/-- OP_SEND (R202). -/
def opSend (now : Time) (s : State) : State := ((s.setHostPhase .capture).emit .host .captureStart).setIdleStart now

/-- OP_GRADE2 (R203). -/
def opGrade2 (now : Time) (s : State) : State := (s.setGrade .grade2).setIdleStart now

/-- OP_GRADE1 (R204). -/
def opGrade1 (now : Time) (s : State) : State := (s.setGrade .grade1).setIdleStart now

/-- OP_IDLE's alert check: a pending alert is taken and its frame written (R205, R206). -/
def sendAlert (s : State) : State :=
  match pendingAlert s with
  | some lab => txWrite .host (alertFrame s lab) (alertTake s)
  | none => alertTake s

/-- OP_IDLE: the alert check, then the idle timer (R205, R212). -/
def opIdle (now : Time) (s : State) : State := idleCheck now (sendAlert s)

/-- The effect of one opcode (R209, R212). -/
def dispatch (op : Opcode) (now : Time) (s : State) : State :=
  match op with
  | .send => opSend now s
  | .grade2 => opGrade2 now s
  | .grade1 => opGrade1 now s
  | .idle => opIdle now s

/-- The host acts on the lines of one poll: it decodes the last non-empty one, latches the opcode and runs it (R201, R209). -/
def actOnLines (lines : List Line) (now : Time) (s : State) : State :=
  dispatch (selectOpcode lines) now (s.setLastOp (selectOpcode lines))

/-- A host poll is illegal during a capture (R209, R275). -/
def whenPolling (f : State → State) (s : State) : State :=
  match s.host.phase with
  | .polling => f s
  | .capture => raiseError .host .illegalCommand s

/-- HOST_POLL's effect (R209). -/
def hostPoll (now : Time) (s : State) : State :=
  whenPolling (fun s => actOnLines (drainedLines .host s) now (rxDrain .host s)) s

/-- The host polls with one received line (R200, R201, R209; log 13). -/
def pollOneLine (l : Line) (now : Time) (s : State) : State := whenPolling (actOnLines [l] now) s

/-- CAPTURE_DONE's effect (R210, R273). -/
def captureDone (err : Bool) (cells : List Cell) (now : Time) (s : State) : State :=
  match s.host.phase with
  | .polling => raiseError .host .illegalCommand s
  | .capture =>
    let s := (s.setHostPhase .polling).setIdleStart now
    if err then raiseError .host .recognitionError s
    else txWrite .host (frameBytes false (normalizeCells cells)) s

/-- ALERT_POST (R207). -/
def execAlertPost (lab : Label) (s : State) : Host.Outcome State Fault Refusal :=
  .next (whenRunning .host (fun s => alertPost (s.labelIn lab) s) s)

/-- HOST_POLL (R209). -/
def execHostPoll (now : Time) (s : State) : Host.Outcome State Fault Refusal :=
  .next (whenRunning .host (fun s => hostPoll (s.clock now) s) s)

/-- CAPTURE_DONE (R210). -/
def execCaptureDone (err : Bool) (cells : List Cell) (now : Time) (s : State) : Host.Outcome State Fault Refusal :=
  .next (whenRunning .host (fun s => captureDone err cells (s.clock now) s) s)

/-- OP_IDLE at the dispatcher's input, as a poll's opcode illegal during a capture (R205, R209, R275, R316, R319; log 12). -/
def execOpIdle (now : Time) (s : State) : Host.Outcome State Fault Refusal :=
  .next (whenRunning .host (fun s => whenPolling (opIdle (s.clock now)) s) s)

/-- OP_SEND at the dispatcher's input, as a poll's opcode illegal during a capture (R202, R209, R275; log 12). -/
def execOpSend (now : Time) (s : State) : Host.Outcome State Fault Refusal :=
  .next (whenRunning .host (fun s => whenPolling (opSend (s.clock now)) s) s)

/-- OP_GRADE2 at the dispatcher's input, as a poll's opcode illegal during a capture (R203, R209, R275; log 12). -/
def execOpGrade2 (now : Time) (s : State) : Host.Outcome State Fault Refusal :=
  .next (whenRunning .host (fun s => whenPolling (opGrade2 (s.clock now)) s) s)

/-- OP_GRADE1 at the dispatcher's input, as a poll's opcode illegal during a capture (R204, R209, R275; log 12). -/
def execOpGrade1 (now : Time) (s : State) : Host.Outcome State Fault Refusal :=
  .next (whenRunning .host (fun s => whenPolling (opGrade1 (s.clock now)) s) s)

/-- CTRL_SEND: the host polls with the received line SEND (R84, R200, R202; log 13). -/
def execCtrlSend (now : Time) (s : State) : Host.Outcome State Fault Refusal :=
  .next (whenRunning .host (fun s => pollOneLine lineSend (s.clock now) s) s)

/-- CTRL_TRUE: the host polls with the received line True (R84, R200, R203; log 13). -/
def execCtrlTrue (now : Time) (s : State) : Host.Outcome State Fault Refusal :=
  .next (whenRunning .host (fun s => pollOneLine lineTrue (s.clock now) s) s)

/-- CTRL_FALSE: the host polls with the received line False (R84, R200, R204; log 13). -/
def execCtrlFalse (now : Time) (s : State) : Host.Outcome State Fault Refusal :=
  .next (whenRunning .host (fun s => pollOneLine lineFalse (s.clock now) s) s)

end Sys2Proof.Machine
end

