-- ==== Sys2Proof/Machine/Fifo.lean ====
section
/-!
DEFINITION. The Receive FIFO (spec 42_receive_fifo): PUSH_BACK, PUSH_FRONT, PEEK, ADVANCE.
-/

namespace Sys2Proof.Machine

/-- Is there room for one more entry (R170, R171)? -/
def hasRoom (s : State) : Bool :=
  match s.cfg.fifoDepth with
  | .unbounded => true
  | .bounded n => decide (s.du.fifo.length < n)

/-- The entries that stay when a full FIFO takes an entry at its front: `take(FIFO_DEPTH - 1, fifo)` (R172). -/
def keptAtFront (s : State) : List Grid :=
  match s.cfg.fifoDepth with
  | .unbounded => s.du.fifo
  | .bounded n => s.du.fifo.take (n - 1)

/-- PUSH_BACK's effect: a full FIFO rejects the new entry (R171, R274). -/
def pushBack (g : Grid) (s : State) : State :=
  if hasRoom s then s.setFifo (s.du.fifo ++ [g])
  else raiseError .du (.fifoOverflow .back) s

/-- PUSH_FRONT's effect: a full FIFO evicts its back entry (R172, R274). -/
def pushFront (g : Grid) (s : State) : State :=
  if hasRoom s then s.setFifo (g :: s.du.fifo)
  else raiseError .du (.fifoOverflow .front) (s.setFifo (g :: keptAtFront s))

/-- ADVANCE's effect: with `consume` the front is popped; on an empty FIFO nothing changes (R174). -/
def advance (consume : Bool) (s : State) : State :=
  if consume then s.setFifo (s.du.fifo.drop 1) else s

/-- Drives FRONT_VALID and FRONT with the front as it stands: G0 and 0 when the FIFO is empty (R173, R174). -/
def driveFront (s : State) : State :=
  s.setOut .du { s.du.out with
    frontValid := some (!s.du.fifo.isEmpty)
    front := some (s.du.fifo.headD Grid.zero) }

/-- PUSH_BACK (R171). -/
def execPushBack (g : Grid) (s : State) : Host.Outcome State Fault Refusal :=
  .next (whenRunning .du (pushBack g) s)

/-- PUSH_FRONT (R172). -/
def execPushFront (g : Grid) (s : State) : Host.Outcome State Fault Refusal :=
  .next (whenRunning .du (pushFront g) s)

/-- PEEK (R173). -/
def execPeek (s : State) : Host.Outcome State Fault Refusal :=
  .next (whenRunning .du driveFront s)

/-- ADVANCE (R174). -/
def execAdvance (consume : Bool) (s : State) : Host.Outcome State Fault Refusal :=
  .next (whenRunning .du (fun s => driveFront (advance consume s)) s)

end Sys2Proof.Machine
end

