-- ==== Sys2Proof/Machine/Codec.lean ====
section
/-!
DEFINITION. The Frame Codec's commands (spec 40_frame_codec): ENCODE, NORMALIZE, DECODE, RX_FRAME, and the two frame kinds
the DU receives (30_encoding R80, R81).
-/

namespace Sys2Proof.Machine

/-- RX_FRAME's effect on one line: a malformed line is logged and dropped, an alert sounds the buzzer and goes to the front,
an ordinary frame goes to the back (R117, R271). -/
def rxFrame (l : Line) (s : State) : State :=
  match decodeFrame l with
  | .error _ => raiseError .du .malformedFrame (s.emit .du (.logMalformed l))
  | .ok (true, g) => pushFront g (s.emit .du .buzz)
  | .ok (false, g) => pushBack g s

/-- Drives ENCODE's FRAME_OUT (R113). -/
def driveFrame (u : UnitId) (h : Bool) (g : Grid) (s : State) : State :=
  s.setOut u { s.outOf u with frameOut := some (frameBytes h g) }

/-- Drives NORMALIZE's GRID_OUT (R114). -/
def driveNormalized (u : UnitId) (cells : List Cell) (s : State) : State :=
  s.setOut u { s.outOf u with gridOut := some (normalizeCells cells) }

/-- Drives DECODE's OK, HDR_OUT and GRID_OUT; for a malformed line 0, 0 and G0 (R115). -/
def driveDecoded (u : UnitId) (l : Line) (s : State) : State :=
  match decodeFrame l with
  | .error _ => s.setOut u { s.outOf u with ok := some false, hdrOut := some false, gridOut := some Grid.zero }
  | .ok (h, g) => s.setOut u { s.outOf u with ok := some true, hdrOut := some h, gridOut := some g }

/-- ENCODE (R113). -/
def execEncode (u : UnitId) (h : Bool) (g : Grid) (s : State) : Host.Outcome State Fault Refusal :=
  .next (whenRunning u (driveFrame u h g) s)

/-- NORMALIZE (R114). -/
def execNormalize (u : UnitId) (cells : List Cell) (s : State) : Host.Outcome State Fault Refusal :=
  .next (whenRunning u (driveNormalized u cells) s)

/-- DECODE (R115). -/
def execDecode (u : UnitId) (l : Line) (s : State) : Host.Outcome State Fault Refusal :=
  .next (whenRunning u (driveDecoded u l) s)

/-- RX_FRAME (R117). -/
def execRxFrame (l : Line) (s : State) : Host.Outcome State Fault Refusal :=
  .next (whenRunning .du (rxFrame l) s)

/-- FRAME_ORDINARY: the DU acts on a received frame with header '0' (R80, R117; log 13). -/
def execFrameOrdinary (g : Grid) (s : State) : Host.Outcome State Fault Refusal :=
  .next (whenRunning .du (rxFrame (frameLine false g)) s)

/-- FRAME_ALERT: the DU acts on a received frame with header '1' (R80, R117; log 13). -/
def execFrameAlert (g : Grid) (s : State) : Host.Outcome State Fault Refusal :=
  .next (whenRunning .du (rxFrame (frameLine true g)) s)

end Sys2Proof.Machine
end

