-- ==== Sys2Proof/Machine/Debounce.lean ====
section
/-!
DEFINITION. The Debounce State Machine (spec 41_debounce): the glitch suppressor, the edge detector, the mode toggle, the
control-line encoder, and POLL.
-/

namespace Sys2Proof.Machine

/-- Is the settle window of channel `i` open at `now` (R141, R142, R143)? -/
def windowOpen (i : Channel) (now : Time) (s : State) : Bool :=
  match s.cfg.settleScope with
  | .perChannel =>
    (s.du.ch.get i).settling && decide (elapsed s.cfg now (s.du.ch.get i).settleStart < s.cfg.settleTime)
  | .global => s.du.gsettle.active && decide (elapsed s.cfg now s.du.gsettle.start < s.cfg.settleTime)

/-- Closes the settle window (R141). -/
def closeWindow (i : Channel) (s : State) : State :=
  match s.cfg.settleScope with
  | .perChannel => s.setChannel i { s.du.ch.get i with settling := false }
  | .global => s.setGsettle { s.du.gsettle with active := false }

/-- Opens the settle window at `now` (R141). -/
def openWindow (i : Channel) (now : Time) (s : State) : State :=
  match s.cfg.settleScope with
  | .perChannel => s.setChannel i { s.du.ch.get i with settling := true, settleStart := now }
  | .global => s.setGsettle { active := true, start := now }

/-- `DU.ch[i].raw <- p` (R141). -/
def setRaw (i : Channel) (p : Bool) (s : State) : State := s.setChannel i { s.du.ch.get i with raw := p }

/-- `DU.ch[i].phase <- ph` (R141). -/
def setPhase (i : Channel) (ph : Phase) (s : State) : State := s.setChannel i { s.du.ch.get i with phase := ph }

/-- MODE_TOGGLE (R145). -/
def modeToggle (s : State) : State := (s.setModeFlag (!s.du.modeFlag)).emit .du (.renderMode (!s.du.modeFlag))

/-- CONTROL_LINE (R146): SEND sends `SEND`, MODE sends the flag's value, NEXT sends nothing. -/
def controlLine (i : Channel) (s : State) : State :=
  match i with
  | .send => txWrite .du (lineSend ++ [LF]) s
  | .mode => txWrite .du ((if s.du.modeFlag then lineTrue else lineFalse) ++ [LF]) s
  | .next => s

/-- The press transition's effects (R141, R144). -/
def pressed (i : Channel) (now : Time) (s : State) : State :=
  let s := openWindow i now ((setPhase i .pressed s).setPulse i true)
  controlLine i (match i with | .mode => modeToggle s | .send => s | .next => s)

/-- POLL's effect on one channel with pin level `p` (R141): nothing but the pulse's end while the window is open; else the
pin is sampled and the edge detector moves (R144). -/
def pollChannel (i : Channel) (p : Bool) (now : Time) (s : State) : State :=
  let quiet := s.setPulse i false
  if windowOpen i now s then quiet
  else
    let sampled := setRaw i p (closeWindow i quiet)
    match (s.du.ch.get i).phase, p with
    | .released, false => pressed i now sampled
    | .pressed, true => setPhase i .released sampled
    | .released, true => sampled
    | .pressed, false => sampled

/-- Drives PULSE with the channel's pulse (R26, R141). -/
def drivePulse (i : Channel) (s : State) : State :=
  s.setOut .du { s.du.out with pulse := some (s.du.pulse.get i) }

/-- POLL (R141); channel 3 is an illegal command (R93, R275; log 24). -/
def execPoll (ch : BitVec 2) (p : Bool) (now : Time) (s : State) : Host.Outcome State Fault Refusal :=
  .next (whenRunning .du
    (fun s =>
      match channelOfField ch with
      | some i => drivePulse i (pollChannel i p (s.clock now) s)
      | none => raiseError .du .illegalCommand s) s)

end Sys2Proof.Machine
end

