-- ==== Sys2Proof/Machine/Tick.lean ====
section
/-!
DEFINITION. The Tick Generator (spec 44_tick_generator): TICK_CHECK.
-/

namespace Sys2Proof.Machine

/-- Does TICK_CHECK fire at `now` (R230)? -/
def tickFires (now : Time) (s : State) : Bool :=
  decide (s.cfg.tickInterval ≤ elapsed s.cfg now s.du.tickLastFire)

/-- TICK_CHECK's effect: a fire restarts the interval at `now` (R230, R231). -/
def tickCheck (now : Time) (s : State) : State := if tickFires now s then s.setTickLastFire now else s

/-- TICK_CHECK (R230). -/
def execTickCheck (now : Time) (s : State) : Host.Outcome State Fault Refusal :=
  .next (whenRunning .du
    (fun s => (tickCheck (s.clock now) s).setOut .du { s.du.out with fire := some (tickFires (s.clock now) s) }) s)

end Sys2Proof.Machine
end

