-- ==== Sys2Proof/Machine/DisplayPoll.lean ====
section
/-!
DEFINITION. The display unit's poll (spec 45_transport_and_poll R244): DU_POLL.
-/

namespace Sys2Proof.Machine

/-- Step 1: the buttons, in channel order (R244). -/
def pollButtons (now : Time) (pins : BitVec 3) (s : State) : State :=
  pollChannel .next (pinLevel pins .next) now
    (pollChannel .mode (pinLevel pins .mode) now
      (pollChannel .send (pinLevel pins .send) now s))

/-- Step 3: RX_FRAME of every complete line, in arrival order (R244). An error ends only its own line's RX_FRAME (R277). -/
def receiveLines (s : State) : State := (drainedLines .du s).foldl (fun s l => rxFrame l s) (rxDrain .du s)

/-- Step 4: a render pass when the tick fires (R244, R252). -/
def refresh (now : Time) (s : State) : State :=
  if tickFires now s then (tickCheck now s).emit .du (.render s.du.fifo.head?) else s

/-- DU_POLL's effect: buttons, consumption by the NEXT pulse, receive, refresh (R244). -/
def duPoll (now : Time) (pins : BitVec 3) (s : State) : State :=
  let s := pollButtons now pins s
  refresh now (receiveLines (advance s.du.pulse.next s))

/-- DU_POLL (R244). -/
def execDuPoll (now : Time) (pins : BitVec 3) (s : State) : Host.Outcome State Fault Refusal :=
  .next (whenRunning .du (fun s => duPoll (s.clock now) pins s) s)

end Sys2Proof.Machine
end

