-- ==== Sys2Proof/Machine/System.lean ====
section
/-!
DEFINITION. NOP and RESET (spec 45_transport_and_poll R245, R246; 10_state R44; 70_reset_and_hazards R300, R301).
-/

namespace Sys2Proof.Machine

/-- A channel at its reset value (R24, R44). -/
def channelAtReset : ChannelState := { phase := .released, raw := true, settling := false, settleStart := 0 }

/-- The DU at its reset values (R44); its trace and result ports are not reset (R41, R300). -/
def resetDu (now : Time) (s : State) : State :=
  { s with du := {
      fifo := []
      ch := ⟨channelAtReset, channelAtReset, channelAtReset⟩
      gsettle := { active := false, start := 0 }
      pulse := ⟨false, false, false⟩
      modeFlag := false
      tickLastFire := now
      rxBuf := []
      status := 0x00#8
      run := .running
      trace := s.du.trace
      out := s.du.out } }

/-- The host at its reset values (R44). The mailbox's label is unspecified: a free value (log 5). -/
def resetHost (now : Time) (s : State) : State :=
  { s with
    host := {
      grade := .grade1
      phase := .polling
      mailbox := { pending := false, label := s.labelIn (Config.unspecifiedLabel s.env.draws) }
      idleStart := now
      rxBuf := []
      status := 0x00#8
      run := .running
      lastOp := .idle
      trace := s.host.trace
      out := s.host.out }
    env := { s.env with draws := s.env.draws + 1 } }

/-- RESET's effect: the reset values, and InitFailure if the transport did not open (R246, R276, R300, R301). -/
def resetUnit (u : UnitId) (now : Time) (openOk : Bool) (s : State) : State :=
  let s := match u with
    | .du => resetDu now s
    | .host => resetHost now s
  if openOk then s else raiseError u .initFailure s

/-- NOP (R245). -/
def execNop (u : UnitId) (s : State) : Host.Outcome State Fault Refusal :=
  .next (whenRunning u id s)

/-- RESET, accepted in every state, FATAL included (R246, R301). -/
def execReset (u : UnitId) (now : Time) (openOk : Bool) (s : State) : Host.Outcome State Fault Refusal :=
  .next (resetUnit u (s.clock now) openOk s)

end Sys2Proof.Machine
end

