-- ==== Sys2Proof/Machine/Dispatch.lean ====
section
/-!
DEFINITION. The meaning of every instruction: one arm for each row of spec/opcode_table.json.
-/

namespace Sys2Proof.Machine

def exec (i : Instr) (s : State) : Host.Outcome State Fault Refusal :=
  match i with
  | .nop u => Sys2Proof.Machine.execNop u s
  | .encode u h g => Sys2Proof.Machine.execEncode u h g s
  | .normalize u cells => Sys2Proof.Machine.execNormalize u cells s
  | .decode u l => Sys2Proof.Machine.execDecode u l s
  | .pushBack g => Sys2Proof.Machine.execPushBack g s
  | .pushFront g => Sys2Proof.Machine.execPushFront g s
  | .peek => Sys2Proof.Machine.execPeek s
  | .advance c => Sys2Proof.Machine.execAdvance c s
  | .poll ch p now => Sys2Proof.Machine.execPoll ch p now s
  | .tickCheck now => Sys2Proof.Machine.execTickCheck now s
  | .alertPost lab => Sys2Proof.Machine.execAlertPost lab s
  | .hostPoll now => Sys2Proof.Machine.execHostPoll now s
  | .captureDone e cells now => Sys2Proof.Machine.execCaptureDone e cells now s
  | .duPoll now pins => Sys2Proof.Machine.execDuPoll now pins s
  | .rxFrame l => Sys2Proof.Machine.execRxFrame l s
  | .reset u now ok => Sys2Proof.Machine.execReset u now ok s
  | .opIdle now => Sys2Proof.Machine.execOpIdle now s
  | .opSend now => Sys2Proof.Machine.execOpSend now s
  | .opGrade2 now => Sys2Proof.Machine.execOpGrade2 now s
  | .opGrade1 now => Sys2Proof.Machine.execOpGrade1 now s
  | .frameOrdinary g => Sys2Proof.Machine.execFrameOrdinary g s
  | .frameAlert g => Sys2Proof.Machine.execFrameAlert g s
  | .ctrlSend now => Sys2Proof.Machine.execCtrlSend now s
  | .ctrlTrue now => Sys2Proof.Machine.execCtrlTrue now s
  | .ctrlFalse now => Sys2Proof.Machine.execCtrlFalse now s

end Sys2Proof.Machine
end

