-- ==== Sys2Proof/WellFormed.lean ====
section
/-!
DEFINITION. Which terms of `Instr` the machine has an encoding for. The types carry the other bounds: a Grid has 12 cells
and a Cell 6 dots by construction (spec R13).
-/

namespace Sys2Proof

/-- A term is well formed unless it is a POLL of channel 3, which R93 makes illegal. -/
def Instr.wellFormed : Instr → Bool
  | .nop _ => true
  | .encode _ _ _ => true
  | .normalize _ _ => true
  | .decode _ _ => true
  | .pushBack _ => true
  | .pushFront _ => true
  | .peek => true
  | .advance _ => true
  | .poll ch _ _ => ch != 3#2
  | .tickCheck _ => true
  | .alertPost _ => true
  | .hostPoll _ => true
  | .captureDone _ _ _ => true
  | .duPoll _ _ => true
  | .rxFrame _ => true
  | .reset _ _ _ => true
  | .opIdle _ => true
  | .opSend _ => true
  | .opGrade2 _ => true
  | .opGrade1 _ => true
  | .frameOrdinary _ => true
  | .frameAlert _ => true
  | .ctrlSend _ => true
  | .ctrlTrue _ => true
  | .ctrlFalse _ => true

end Sys2Proof
end

