-- ==== Sys2Proof/Decode.lean ====
section
/-!
DEFINITION. The decoder, total on whatever stands at a port and rejecting by name (spec 30_encoding R80, R84, R86, R91 to
R94), and after it the encoder, written from the same tables. `decodeTableWord` reads a row's word as
spec/opcode_table.json numbers its bits.
-/

namespace Sys2Proof

open Sys2Proof.Machine

/-- Why what stands at a port is no instruction. -/
inductive Reject where
  /-- CW[5:0] is not 0 (R93). -/
  | reservedBits
  /-- A command-word field that the operation does not use is not 0 (R93). -/
  | unusedField
  /-- The operation is not accepted at this unit's port (R92, R93). -/
  | otherUnit
  /-- POLL with CH = 3 (R93). -/
  | channelThree
  /-- A line at the DU that is no frame (R88, R115). -/
  | malformedFrame (reason : Malformed)
  /-- A line at the host that is no control line; it decodes to opcode 00 (R88, R200). -/
  | notAControlLine
  deriving DecidableEq, Repr

/-- OP, CW[15:12] (R91). -/
def cwOp (cw : BitVec 16) : Nat := (cw.extractLsb' 12 4).toNat
/-- CH, CW[11:10] (R91). -/
def cwCh (cw : BitVec 16) : BitVec 2 := cw.extractLsb' 10 2
/-- PIN, CW[9] (R91). -/
def cwPin (cw : BitVec 16) : Bool := cw.getLsbD 9
/-- CONSUME, CW[8] (R91). -/
def cwConsume (cw : BitVec 16) : Bool := cw.getLsbD 8
/-- HDR, CW[7] (R91). -/
def cwHdr (cw : BitVec 16) : Bool := cw.getLsbD 7
/-- ERR, CW[6] (R91). -/
def cwErr (cw : BitVec 16) : Bool := cw.getLsbD 6

/-- The mask of the command-word fields that OP uses (R91, R92). -/
def fieldMask (op : Nat) : BitVec 16 :=
  match op with
  | 0x1 => 0x0080#16
  | 0x7 => 0x0100#16
  | 0x8 => 0x0E00#16
  | 0xC => 0x0040#16
  | _ => 0x0000#16

/-- The units whose port accepts OP (R92). -/
def accepts (u : UnitId) (op : Nat) : Bool :=
  match op with
  | 0x0 | 0x1 | 0x2 | 0x3 | 0xF => true
  | 0xA | 0xB | 0xC => u == .host
  | _ => u == .du

/-- The instruction of a legal command word: OP selects it, its fields and the data ports it reads are its operands
(R92, R94). -/
def commandInstr (u : UnitId) (cw : BitVec 16) (d : Inputs) : Instr :=
  match cwOp cw with
  | 0x0 => .nop u
  | 0x1 => .encode u (cwHdr cw) d.grid
  | 0x2 => .normalize u d.cells
  | 0x3 => .decode u d.line
  | 0x4 => .pushBack d.grid
  | 0x5 => .pushFront d.grid
  | 0x6 => .peek
  | 0x7 => .advance (cwConsume cw)
  | 0x8 => .poll (cwCh cw) (cwPin cw) d.now
  | 0x9 => .tickCheck d.now
  | 0xA => .alertPost d.label
  | 0xB => .hostPoll d.now
  | 0xC => .captureDone (cwErr cw) d.cells d.now
  | 0xD => .duPoll d.now d.pins
  | 0xE => .rxFrame d.line
  | _ => .reset u d.now d.openOk

/-- A command word with its data ports at a unit's command port (R91 to R94). -/
def decodeCommand (u : UnitId) (cw : BitVec 16) (d : Inputs) : Except Reject Instr :=
  if cw &&& 0x003F#16 ≠ 0#16 then .error .reservedBits
  else if cw &&& 0x0FC0#16 &&& ~~~(fieldMask (cwOp cw)) ≠ 0#16 then .error .unusedField
  else if accepts u (cwOp cw) = false then .error .otherUnit
  else if cwOp cw = 0x8 ∧ cwCh cw = 3#2 then .error .channelThree
  else .ok (commandInstr u cw d)

/-- The opcode of two bits (R86). -/
def Opcode.ofCode (op : BitVec 2) : Opcode :=
  match op.toNat with
  | 0 => .idle
  | 1 => .send
  | 2 => .grade2
  | _ => .grade1

/-- A 2-bit opcode at the dispatcher's input; every value is defined (R86). -/
def decodeOpcode (op : BitVec 2) (d : Inputs) : Instr :=
  match Opcode.ofCode op with
  | .idle => .opIdle d.now
  | .send => .opSend d.now
  | .grade2 => .opGrade2 d.now
  | .grade1 => .opGrade1 d.now

/-- A complete line at the DU's receiver (R80, R81, R88). -/
def decodeDuLine (l : Line) : Except Reject Instr :=
  match decodeFrame l with
  | .error r => .error (.malformedFrame r)
  | .ok (false, g) => .ok (.frameOrdinary g)
  | .ok (true, g) => .ok (.frameAlert g)

/-- A complete line at the host's receiver (R84, R88, R200). -/
def decodeHostLine (l : Line) (d : Inputs) : Except Reject Instr :=
  match cdec l with
  | .send => .ok (.ctrlSend d.now)
  | .grade2 => .ok (.ctrlTrue d.now)
  | .grade1 => .ok (.ctrlFalse d.now)
  | .idle => .error .notAControlLine

/-- The instruction that stands at a port, or why there is none. -/
def decode : Presented → Except Reject Instr
  | .command u cw d => decodeCommand u cw d
  | .opcode op d => .ok (decodeOpcode op d)
  | .line .du l _ => decodeDuLine l
  | .line .host l d => decodeHostLine l d

/-- A single-bit field of the command word at bit `k` (R91, R94). -/
def bitField (k : Nat) (b : Bool) : BitVec 16 := if b then 1#16 <<< k else 0#16

/-- The encoder: where an instruction stands and with which bits (R80, R84, R86, R91, R92). Data ports the instruction does
not read are zero. -/
def encode : Instr → Presented
  | .nop u => .command u 0x0000#16 {}
  | .encode u h g => .command u (0x1000#16 ||| bitField 7 h) { grid := g }
  | .normalize u s => .command u 0x2000#16 { cells := s }
  | .decode u l => .command u 0x3000#16 { line := l }
  | .pushBack g => .command .du 0x4000#16 { grid := g }
  | .pushFront g => .command .du 0x5000#16 { grid := g }
  | .peek => .command .du 0x6000#16 {}
  | .advance c => .command .du (0x7000#16 ||| bitField 8 c) {}
  | .poll ch pin now => .command .du (0x8000#16 ||| ch.setWidth 16 <<< 10 ||| bitField 9 pin) { now := now }
  | .tickCheck now => .command .du 0x9000#16 { now := now }
  | .alertPost lab => .command .host 0xA000#16 { label := lab }
  | .hostPoll now => .command .host 0xB000#16 { now := now }
  | .captureDone e s now => .command .host (0xC000#16 ||| bitField 6 e) { cells := s, now := now }
  | .duPoll now pins => .command .du 0xD000#16 { now := now, pins := pins }
  | .rxFrame l => .command .du 0xE000#16 { line := l }
  | .reset u now ok => .command u 0xF000#16 { now := now, openOk := ok }
  | .opIdle now => .opcode 0#2 { now := now }
  | .opSend now => .opcode 1#2 { now := now }
  | .opGrade2 now => .opcode 2#2 { now := now }
  | .opGrade1 now => .opcode 3#2 { now := now }
  | .frameOrdinary g => .line .du (frameLine false g) {}
  | .frameAlert g => .line .du (frameLine true g) {}
  | .ctrlSend now => .line .host lineSend { now := now }
  | .ctrlTrue now => .line .host lineTrue { now := now }
  | .ctrlFalse now => .line .host lineFalse { now := now }

/-- The `n` lowest bytes of `w`, the least significant first: the bytes of a line as they stand on the wire. -/
def bytesOf : Nat → Nat → List Byte
  | 0, _ => []
  | n + 1, w => BitVec.ofNat 8 w :: bytesOf n (w / 256)

/-- A line's bytes with its terminator LF, as a line; none where they do not end in LF (R80, R84, R85). -/
def stripLF (bs : List Byte) : Option Line :=
  if bs.getLast? = some LF then some bs.dropLast else none

/-- What a row's word of `nbits` bits is at a port: up to 8 bits a dispatcher opcode, whose bits above 1 are 0; 16 bits a
command word, at the DU's port if the DU accepts it and at the host's otherwise; 40 and 48 bits a control line with its LF;
592 bits a frame with its LF. Every data port stands at zero (log 22). -/
def tablePresented (nbits w : Nat) : Option Presented :=
  if nbits ≤ 8 then
    if w < 4 then some (.opcode (BitVec.ofNat 2 w) {}) else none
  else if nbits = 16 then
    if w < 2 ^ 16 then
      match decodeCommand .du (BitVec.ofNat 16 w) {} with
      | .ok _ => some (.command .du (BitVec.ofNat 16 w) {})
      | .error _ => some (.command .host (BitVec.ofNat 16 w) {})
    else none
  else if nbits = 40 ∨ nbits = 48 then
    (stripLF (bytesOf (nbits / 8) w)).map fun l => .line .host l {}
  else if nbits = 592 then
    (stripLF (bytesOf 74 w)).map fun l => .line .du l {}
  else none

/-- The instruction that the decoder reads from a row's word; none where it refuses. -/
def decodeTableWord (nbits w : Nat) : Option Instr :=
  match tablePresented nbits w with
  | none => none
  | some p =>
    match decode p with
    | .ok i => some i
    | .error _ => none

end Sys2Proof
end

