-- ==== Sys2Proof/Machine/Schedule.lean ====
section
/-!
DEFINITION. Which agent steps next and with what (spec 00_scope R8; 20_memory R70; 45_transport_and_poll R247, R250), and
what a step does with what is no instruction (30_encoding R88, R93; 60_exceptions R275).
-/

namespace Sys2Proof.Machine

/-- The turn an agent takes of its own accord: the DU's loop issues DU_POLL, the host's HOST_POLL while POLLING and
CAPTURE_DONE during a capture, the alert source ALERT_POST; a link steps; a unit is reset (R8, R90, R247, R300). -/
def agentTurn (t : Config.LoopTurn) (s : State) : Turn :=
  match t with
  | .du now pins => .present (encode (.duPoll now pins))
  | .host now err cells =>
    match s.host.phase with
    | .polling => .present (encode (.hostPoll now))
    | .capture => .present (encode (.captureDone err cells now))
  | .alert lab => .present (encode (.alertPost lab))
  | .link l noise => .link l noise
  | .reset u now ok => .present (encode (.reset u now ok))

/-- The turn to be performed: the next one already fixed, else one that ENV chooses freely (R70, R250; log 6). -/
def nextTurn (s : State) : Turn :=
  match s.env.schedule with
  | t :: _ => t
  | [] => agentTurn (Config.loopTurn s.env.draws) s

/-- Takes that turn: it is performed once. -/
def takeTurn (s : State) : State :=
  match s.env.schedule with
  | _ :: ts => s.setEnv { s.env with schedule := ts }
  | [] => s.setEnv { s.env with draws := s.env.draws + 1 }

/-- The result ports of the unit are not valid until the command drives them (R91; log 9). -/
def invalidatePorts (u : UnitId) (s : State) : State := s.setOut u {}

/-- What stands at a port and is no instruction: an illegal command word raises IllegalCommand (R93, R275), a malformed line
at the DU is dropped as RX_FRAME drops it (R88, R117), any other line at the host is an idle poll (R88, R200). -/
def actOnReject (p : Presented) (s : State) : State :=
  match p with
  | .command u _ _ => whenRunning u (raiseError u .illegalCommand) s
  | .opcode _ _ => s
  | .line .du l _ => whenRunning .du (rxFrame l) s
  | .line .host l d => whenRunning .host (fun s => pollOneLine l (s.clock d.now) s) s

/-- The turn that runs a table row's word (log 22). -/
def tableTurn (nbits w : Nat) : List Turn :=
  match tablePresented nbits w with
  | some p => [.present p]
  | none => []

end Sys2Proof.Machine
end

