-- ==== Sys2Proof/Machine/Step.lean ====
section
/-!
DEFINITION. One atomic step of one agent (spec 00_scope R8; 20_memory R70; 30_encoding R90).
-/

namespace Sys2Proof.Machine

/-- Performs one turn: a LINK step, or the instruction that stands at a port. -/
def perform (t : Turn) (s : State) : Host.Outcome State Fault Refusal :=
  match t with
  | .link l noise => .next (linkStep l noise s)
  | .present p =>
    match decode p with
    | .ok i => exec i (invalidatePorts p.unit s)
    | .error _ => .next (actOnReject p (invalidatePorts p.unit s))

/-- One step: the next turn is taken and performed. -/
def step (s : State) : Host.Outcome State Fault Refusal := perform (nextTurn s) (takeTurn s)

/-- `s` with a table row's instruction as the next turn. -/
def State.withFetchWord (s : State) (nbits w : Nat) : State :=
  s.setEnv { s.env with schedule := tableTurn nbits w ++ s.env.schedule }

end Sys2Proof.Machine
end

