-- ==== Sys2Proof/Safety.lean ====
section
/-!
DEFINITION. What counts as a safe state and a safe trace of the BBC, and the runs of instructions that statements speak of.
-/

namespace Sys2Proof.Machine

/-- The bound of R23 on the FIFO: at most FIFO_DEPTH entries, and a finite FIFO_DEPTH is at least 1 (R9). -/
def FifoBounded (s : State) : Prop :=
  match s.cfg.fifoDepth with
  | .unbounded => True
  | .bounded n => 1 ≤ n ∧ s.du.fifo.length ≤ n

/-- `len(DU.fifo) < FIFO_DEPTH`, or the FIFO has no bound: the condition of R171 and R172. -/
def FifoHasRoom (s : State) : Prop :=
  s.cfg.fifoDepth = .unbounded ∨ ∃ n, s.cfg.fifoDepth = .bounded n ∧ s.du.fifo.length < n

/-- The FIFO holds FIFO_DEPTH entries (or more, in states no run reaches): the condition of R274. -/
def FifoFull (s : State) (n : Nat) : Prop := s.cfg.fifoDepth = .bounded n ∧ n ≤ s.du.fifo.length

/-- The settle window of channel `i` is open at the time `t` (R142, R143). -/
def SettleWindowOpen (i : Channel) (t : Time) (s : State) : Prop :=
  (s.cfg.settleScope = .perChannel ∧ (s.du.ch.get i).settling = true ∧
    elapsed s.cfg t (s.du.ch.get i).settleStart < s.cfg.settleTime) ∨
  (s.cfg.settleScope = .global ∧ s.du.gsettle.active = true ∧
    elapsed s.cfg t s.du.gsettle.start < s.cfg.settleTime)

/-- A valid frame line: 73 characters, each '0' or '1' (R80, R115). -/
def ValidFrameLine (l : Line) : Prop := l.length = 73 ∧ ∀ c ∈ l, c = 0x30#8 ∨ c = 0x31#8

/-- `l` is the frame of header `h` and Grid `g` without its LF, character by character (R80, R82, R112). -/
def IsFrameOf (l : Line) (h : Bool) (g : Grid) : Prop :=
  l.length = 73 ∧ l[0]? = some (if h then 0x31#8 else 0x30#8) ∧
    ∀ c < 12, ∀ k < 6, l[1 + 6 * c + k]? = some (if (g.cell c).dot (PERM.getD k 0) then 0x31#8 else 0x30#8)

/-- The label is a value of the type Label (R9, R13; log 14). -/
def LabelInType (t : Config.LabelType) (lab : Label) : Prop :=
  match t with
  | .upTo n => lab.index ≤ n
  | .countable => True

/-- What every state of a run keeps. -/
structure StateOk (s : State) : Prop where
  /-- The FIFO's bound (R23). -/
  fifo_bounded : FifoBounded s
  /-- A time is a TIME_WIDTH-bit value (R13, R248). -/
  settle_in_range : ∀ i, (s.du.ch.get i).settleStart < 2 ^ s.cfg.timeWidth
  gsettle_in_range : s.du.gsettle.start < 2 ^ s.cfg.timeWidth
  tick_in_range : s.du.tickLastFire < 2 ^ s.cfg.timeWidth
  idle_in_range : s.host.idleStart < 2 ^ s.cfg.timeWidth
  /-- The mailbox holds a value of the type Label (R34). -/
  label_in_type : LabelInType s.cfg.labels s.host.mailbox.label
  /-- Reserved status bits read as 0 (R30, R37). -/
  du_reserved_zero : s.du.status &&& 0xF0#8 = 0#8
  host_reserved_zero : s.host.status &&& 0xF8#8 = 0#8
  /-- A channel is Pressed exactly when the pin level last sampled was active (R24, R144). -/
  pressed_iff_raw_active : ∀ i, (s.du.ch.get i).phase = .pressed ↔ (s.du.ch.get i).raw = false
  /-- A pulse comes with the press that caused it (R144, R147). -/
  pulse_pressed : ∀ i, s.du.pulse.get i = true → (s.du.ch.get i).phase = .pressed
  /-- A channel's window opens only on a press, and its release is sampled only once it has closed (R141, R150). -/
  settling_pressed : ∀ i, (s.du.ch.get i).settling = true → (s.du.ch.get i).phase = .pressed
  /-- The settle fields of the scope not in use stay at their reset values (R24, R25). -/
  unused_scope : match s.cfg.settleScope with
    | .perChannel => s.du.gsettle = ⟨false, 0⟩
    | .global => ∀ i, (s.du.ch.get i).settling = false ∧ (s.du.ch.get i).settleStart = 0

/-- The events the DU emits (R14): of its transport writes, only control lines (R84, R320). -/
def DuEvent : Event → Prop
  | .tx b => b = lineSend ++ [LF] ∨ b = lineTrue ++ [LF] ∨ b = lineFalse ++ [LF]
  | .buzz => True
  | .render _ => True
  | .renderMode _ => True
  | .logMalformed l => ∀ h g, l ≠ frameLine h g
  | .captureStart => False
  | .recalRequest => False
  | .error k => k ≠ .recognitionError

/-- The events the host emits (R14): of its transport writes, only frames (R80, R320). -/
def HostEvent : Event → Prop
  | .tx b => ∃ h g, b = frameBytes h g
  | .buzz => False
  | .render _ => False
  | .renderMode _ => False
  | .logMalformed _ => False
  | .captureStart => True
  | .recalRequest => True
  | .error k => k = .transportWriteFailure ∨ k = .recognitionError ∨ k = .illegalCommand ∨ k = .initFailure

/-- Each unit's trace holds only events of that unit (R14). -/
structure TracesOk (s : State) : Prop where
  du_events : ∀ e ∈ s.du.trace, DuEvent e
  host_events : ∀ e ∈ s.host.trace, HostEvent e

/-- Instructions performed one after the other. -/
def runInstrs : List Instr → State → Host.Outcome State Fault Refusal
  | [], s => .next s
  | i :: is, s =>
    match exec i s with
    | .next t => runInstrs is t
    | .fault f => .fault f
    | .refused r => .refused r

/-- The PULSE results of POLLs of one channel, each with its pin level and `now`, one after the other. -/
def pulsesOf (i : Channel) : List (Bool × Time) → State → List Bool
  | [], _ => []
  | (p, now) :: ps, s =>
    match exec (.poll i.field p now) s with
    | .next t => t.du.pulse.get i :: pulsesOf i ps t
    | .fault _ => []
    | .refused _ => []

/-- Steps of one link, each with what ENV would deliver in place of the byte it moves. -/
def linkSteps (l : Link) (noises : List (Option Byte)) (s : State) : State :=
  noises.foldl (fun t n => linkStep l n t) s

/-- The bytes that a list of lines stands for on the link: each line and its LF (R85). -/
def joinLines (ls : List Line) : List Byte := ls.flatMap fun l => l ++ [LF]

end Sys2Proof.Machine
end

