-- ==== Sys2Proof/Certificates/Slice0/Obligations.lean ====
section
/-!
DEFINITION. The statements for the provers. Each says, for every state and all operands that meet its hypotheses, what an
instruction or the machine does; a next state written as a record update leaves every field it does not name unchanged.
-/

open Sys2Proof Sys2Proof.Machine

/-! ## Commands without operands on the state, and the codec -/

/-- NOP changes no state and emits no event, and the all-zero command word is NOP at both ports (R245). -/
def Obligations.NopChangesNothing : Prop :=
  ∀ (u : UnitId) (d : Inputs) (s : State),
    exec (.nop u) s = .next s ∧ decode (.command u 0x0000#16 d) = .ok (.nop u)

/-- REORDER and RESTORE gather by PERM and INV, and each undoes the other (R110, R111). -/
def Obligations.ReorderAndRestoreAreInverse : Prop :=
  PERM = [0, 3, 1, 4, 2, 5] ∧ INV = [0, 2, 4, 1, 3, 5] ∧ ∀ (d : Cell) (t : SentCell),
    (∀ k < 6, (reorder d).bit k = d.dot (PERM.getD k 0)) ∧ (∀ j < 6, (restore t).dot j = t.bit (INV.getD j 0)) ∧
    restore (reorder d) = d ∧ reorder (restore t) = t

/-- ENCODE drives FRAME_OUT with the 74 bytes of the frame, character by character, and changes nothing else (R112, R113). -/
def Obligations.EncodeDrivesTheFrame : Prop :=
  ∀ (h : Bool) (g : Grid) (s : State), ∃ l : Line, IsFrameOf l h g ∧
    (s.du.run = .running → exec (.encode .du h g) s =
      .next { s with du := { s.du with out := { s.du.out with frameOut := some (l ++ [0x0A#8]) } } }) ∧
    (s.host.run = .running → exec (.encode .host h g) s =
      .next { s with host := { s.host with out := { s.host.out with frameOut := some (l ++ [0x0A#8]) } } })

/-- NORMALIZE drives GRID_OUT with the first 12 cells, padded at the end with empty cells (R114). -/
def Obligations.NormalizeTakesTwelveCells : Prop :=
  ∀ (cells : List Cell) (s : State), ∃ g : Grid,
    g.cells = cells.take 12 ++ List.replicate (12 - min 12 cells.length) Cell.zero ∧
    (s.du.run = .running → exec (.normalize .du cells) s =
      .next { s with du := { s.du with out := { s.du.out with gridOut := some g } } }) ∧
    (s.host.run = .running → exec (.normalize .host cells) s =
      .next { s with host := { s.host with out := { s.host.out with gridOut := some g } } })

/-- DECODE of a valid line: OK = 1, the header, and the Grid whose dot `j` of cell `c` is payload character `6c + INV[j]`; of
any other line: OK = 0, HDR_OUT = 0 and GRID_OUT = G0, by the line's length or by its first character that is neither '0' nor
'1'. No error is recorded (R111, R115). -/
def Obligations.DecodeReportsOneLine : Prop :=
  ∀ (l : Line) (s : State),
    (ValidFrameLine l → ∃ g : Grid,
      (∀ c < 12, ∀ j < 6, (g.cell c).dot j = decide (l[1 + 6 * c + INV.getD j 0]? = some 0x31#8)) ∧
      (s.du.run = .running → exec (.decode .du l) s =
        .next { s with du := { s.du with out := { s.du.out with
          ok := some true, hdrOut := some (decide (l[0]? = some 0x31#8)), gridOut := some g } } }) ∧
      (s.host.run = .running → exec (.decode .host l) s =
        .next { s with host := { s.host with out := { s.host.out with
          ok := some true, hdrOut := some (decide (l[0]? = some 0x31#8)), gridOut := some g } } })) ∧
    (¬ ValidFrameLine l →
      (s.du.run = .running → exec (.decode .du l) s =
        .next { s with du := { s.du with out := { s.du.out with
          ok := some false, hdrOut := some false, gridOut := some Grid.zero } } }) ∧
      (s.host.run = .running → exec (.decode .host l) s =
        .next { s with host := { s.host with out := { s.host.out with
          ok := some false, hdrOut := some false, gridOut := some Grid.zero } } })) ∧
    (l.length ≠ 73 → decodeFrame l = .error .length) ∧
    (∀ i c, l.length = 73 → l[i]? = some c → c ≠ 0x30#8 → c ≠ 0x31#8 →
      (∀ j < i, l[j]? = some 0x30#8 ∨ l[j]? = some 0x31#8) → decodeFrame l = .error (.charset i))

/-! ## RX_FRAME and the frames -/

/-- RX_FRAME drops a malformed line with MALF, LOG_MALFORMED and ERROR, the FIFO unchanged and no BUZZ. Of a valid frame, an
ordinary one is pushed at the back and an alert, after BUZZ, at the front; each push is the one of the command, so with room
it is one more entry (R117, R271). -/
def Obligations.RxFrameRoutesOneLine : Prop :=
  ∀ (l : Line) (g : Grid) (s : State), s.du.run = .running →
    (¬ ValidFrameLine l → exec (.rxFrame l) s = .next { s with du := { s.du with
      status := s.du.status ||| 0x01#8
      trace := s.du.trace ++ [.logMalformed l, .error .malformedFrame] } }) ∧
    (IsFrameOf l false g → exec (.rxFrame l) s = exec (.pushBack g) s ∧
      (FifoHasRoom s → exec (.rxFrame l) s =
        .next { s with du := { s.du with fifo := s.du.fifo ++ [g] } })) ∧
    (IsFrameOf l true g →
      exec (.rxFrame l) s = exec (.pushFront g) { s with du := { s.du with trace := s.du.trace ++ [.buzz] } } ∧
      (FifoHasRoom s → exec (.rxFrame l) s =
        .next { s with du := { s.du with fifo := g :: s.du.fifo, trace := s.du.trace ++ [.buzz] } }))

/-- A received frame as an instruction: FRAME_ORDINARY appends its Grid, FRAME_ALERT emits BUZZ and inserts its Grid at the
front; on a full FIFO as PUSH_BACK and PUSH_FRONT (R117). That a frame is an instruction of its own is the model's choice
(log 13), that BACK or FRONT stands in the event its reading (log 19). -/
def Obligations.FramesInsertTheirGrid : Prop :=
  ∀ (g : Grid) (s : State), s.du.run = .running →
    (FifoHasRoom s →
      exec (.frameOrdinary g) s = .next { s with du := { s.du with fifo := s.du.fifo ++ [g] } } ∧
      exec (.frameAlert g) s =
        .next { s with du := { s.du with fifo := g :: s.du.fifo, trace := s.du.trace ++ [.buzz] } }) ∧
    (∀ n, FifoFull s n →
      exec (.frameOrdinary g) s = .next { s with du := { s.du with
        status := s.du.status ||| 0x02#8, trace := s.du.trace ++ [.error (.fifoOverflow .back)] } } ∧
      exec (.frameAlert g) s = .next { s with du := { s.du with
        fifo := g :: s.du.fifo.take (n - 1)
        status := s.du.status ||| 0x02#8
        trace := s.du.trace ++ [.buzz, .error (.fifoOverflow .front)] } })

/-! ## The Receive FIFO -/

/-- PUSH_BACK appends its Grid; a full FIFO rejects it with FifoOverflow(BACK) and OVF (R171, R274). That BACK stands in
the event is the model's reading (log 19). -/
def Obligations.PushBackAppendsOrRejects : Prop :=
  ∀ (g : Grid) (s : State), s.du.run = .running →
    (FifoHasRoom s → exec (.pushBack g) s = .next { s with du := { s.du with fifo := s.du.fifo ++ [g] } }) ∧
    (∀ n, FifoFull s n → exec (.pushBack g) s = .next { s with du := { s.du with
      status := s.du.status ||| 0x02#8, trace := s.du.trace ++ [.error (.fifoOverflow .back)] } })

/-- PUSH_FRONT inserts its Grid ahead of every entry; a full FIFO evicts its back entry, with FifoOverflow(FRONT) and OVF
(R172, R274). That FRONT stands in the event is the model's reading (log 19). -/
def Obligations.PushFrontInsertsOrEvicts : Prop :=
  ∀ (g : Grid) (s : State), s.du.run = .running →
    (FifoHasRoom s → exec (.pushFront g) s = .next { s with du := { s.du with fifo := g :: s.du.fifo } }) ∧
    (∀ n, FifoFull s n → exec (.pushFront g) s = .next { s with du := { s.du with
      fifo := g :: s.du.fifo.take (n - 1)
      status := s.du.status ||| 0x02#8
      trace := s.du.trace ++ [.error (.fifoOverflow .front)] } })

/-- PEEK drives FRONT_VALID and FRONT with the front, or 0 and G0 on an empty FIFO, and changes nothing else (R173). -/
def Obligations.PeekShowsTheFront : Prop :=
  ∀ (s : State), s.du.run = .running →
    (∀ f fs, s.du.fifo = f :: fs → exec .peek s = .next { s with du := { s.du with
      out := { s.du.out with frontValid := some true, front := some f } } }) ∧
    (s.du.fifo = [] → exec .peek s = .next { s with du := { s.du with
      out := { s.du.out with frontValid := some false, front := some Grid.zero } } })

/-- ADVANCE with CONSUME pops exactly one entry of a FIFO that is not empty and drives the new front; without CONSUME, or on
an empty FIFO, it pops nothing and drives the front as it stands (R174). -/
def Obligations.AdvancePopsOnlyWhenConsuming : Prop :=
  ∀ (s : State), s.du.run = .running →
    (∀ f g fs, s.du.fifo = f :: g :: fs → exec (.advance true) s = .next { s with du := { s.du with
      fifo := g :: fs, out := { s.du.out with frontValid := some true, front := some g } } }) ∧
    (∀ f, s.du.fifo = [f] → exec (.advance true) s = .next { s with du := { s.du with
      fifo := [], out := { s.du.out with frontValid := some false, front := some Grid.zero } } }) ∧
    (∀ f fs, s.du.fifo = f :: fs → exec (.advance false) s = .next { s with du := { s.du with
      out := { s.du.out with frontValid := some true, front := some f } } }) ∧
    (∀ c, s.du.fifo = [] → exec (.advance c) s = .next { s with du := { s.du with
      out := { s.du.out with frontValid := some false, front := some Grid.zero } } })

/-- Alert A pushed at the front after the ordinary items O1, O2 gives [A, O1, O2]; after any number of ADVANCEs without
CONSUME the FIFO is the same, and each returns A; ADVANCE with CONSUME then returns O1, and PEEK then returns O1 (R178). -/
def Obligations.AlertGoesAheadOfOrdinaryItems : Prop :=
  ∀ (o1 o2 a : Grid) (k : Nat) (s : State), s.du.run = .running → s.du.fifo = [] →
    (s.cfg.fifoDepth = .unbounded ∨ ∃ n, s.cfg.fifoDepth = .bounded n ∧ 3 ≤ n) →
    ∃ t1 t2 t3 t4,
      runInstrs [.pushBack o1, .pushBack o2, .pushFront a] s = .next t1 ∧ t1.du.fifo = [a, o1, o2] ∧
      runInstrs (List.replicate k (.advance false)) t1 = .next t2 ∧ t2.du.fifo = [a, o1, o2] ∧
      (1 ≤ k → t2.du.out.front = some a) ∧
      exec (.advance true) t2 = .next t3 ∧ t3.du.out.front = some o1 ∧
      exec .peek t3 = .next t4 ∧ t4.du.out.front = some o1 ∧ t4.du.fifo = [o1, o2]

/-- Grids pushed at the back without overflow leave through ADVANCE with CONSUME in the order they were pushed (R176). -/
def Obligations.OrdinaryGridsLeaveInOrder : Prop :=
  ∀ (gs : List Grid) (k : Nat) (s : State), s.du.run = .running →
    (s.cfg.fifoDepth = .unbounded ∨
      ∃ n, s.cfg.fifoDepth = .bounded n ∧ s.du.fifo.length + gs.length ≤ n) →
    ∃ t, runInstrs (gs.map .pushBack ++ List.replicate k (.advance true)) s = .next t ∧
      t.du.fifo = (s.du.fifo ++ gs).drop k ∧ t.du.status = s.du.status ∧ t.du.trace = s.du.trace

/-! ## Debounce -/

/-- A POLL inside an open settle window ends the pulse and samples nothing (R141, R142, R143). -/
def Obligations.PollInsideTheWindowSamplesNothing : Prop :=
  ∀ (i : Channel) (p : Bool) (now : Time) (s : State), s.du.run = .running →
    SettleWindowOpen i (s.clock now) s →
    exec (.poll i.field p now) s = .next { s with du := { s.du with
      pulse := s.du.pulse.set i false, out := { s.du.out with pulse := some false } } }

/-- A sampled POLL that finds no press: the window is closed, the level is latched, a Pressed channel whose pin is inactive is
Released, and there is no pulse (R141, R144). -/
def Obligations.SampledPollWithoutPress : Prop :=
  ∀ (i : Channel) (p : Bool) (now : Time) (s : State), s.du.run = .running →
    ¬ SettleWindowOpen i (s.clock now) s → ((s.du.ch.get i).phase = .pressed ∨ p = true) →
    let phase' := if p then .released else .pressed
    (s.cfg.settleScope = .perChannel → exec (.poll i.field p now) s = .next { s with du := { s.du with
      ch := s.du.ch.set i { s.du.ch.get i with phase := phase', raw := p, settling := false }
      pulse := s.du.pulse.set i false
      out := { s.du.out with pulse := some false } } }) ∧
    (s.cfg.settleScope = .global → exec (.poll i.field p now) s = .next { s with du := { s.du with
      ch := s.du.ch.set i { s.du.ch.get i with phase := phase', raw := p }
      gsettle := { s.du.gsettle with active := false }
      pulse := s.du.pulse.set i false
      out := { s.du.out with pulse := some false } } })

/-- A sampled press of NEXT: Pressed, one pulse, the settle window opened, nothing sent (R141, R144, R146). -/
def Obligations.PressOfNextPulsesAndSendsNothing : Prop :=
  ∀ (now : Time) (s : State), s.du.run = .running →
    ¬ SettleWindowOpen .next (s.clock now) s → s.du.ch.next.phase = .released →
    (s.cfg.settleScope = .perChannel → exec (.poll 2#2 false now) s = .next { s with du := { s.du with
      ch := { s.du.ch with next :=
        { phase := .pressed, raw := false, settling := true, settleStart := s.clock now } }
      pulse := { s.du.pulse with next := true }
      out := { s.du.out with pulse := some true } } }) ∧
    (s.cfg.settleScope = .global → exec (.poll 2#2 false now) s = .next { s with du := { s.du with
      ch := { s.du.ch with next := { s.du.ch.next with phase := .pressed, raw := false } }
      gsettle := { active := true, start := s.clock now }
      pulse := { s.du.pulse with next := true }
      out := { s.du.out with pulse := some true } } })

/-- A sampled press of SEND whose write succeeds: Pressed, one pulse, the window opened, and `SEND` LF sent (R141, R146). -/
def Obligations.PressOfSendSendsSend : Prop :=
  ∀ (now : Time) (s : State), s.du.run = .running →
    ¬ SettleWindowOpen .send (s.clock now) s → s.du.ch.send.phase = .released → nextAnswer s = .ok →
    (s.cfg.settleScope = .perChannel → exec (.poll 0#2 false now) s = .next { s with
      du := { s.du with
        ch := { s.du.ch with send :=
          { phase := .pressed, raw := false, settling := true, settleStart := s.clock now } }
        pulse := { s.du.pulse with send := true }
        trace := s.du.trace ++ [.tx (lineSend ++ [LF])]
        out := { s.du.out with pulse := some true } }
      linkDH := s.linkDH ++ (lineSend ++ [LF])
      env := (takeAnswer s).env }) ∧
    (s.cfg.settleScope = .global → exec (.poll 0#2 false now) s = .next { s with
      du := { s.du with
        ch := { s.du.ch with send := { s.du.ch.send with phase := .pressed, raw := false } }
        gsettle := { active := true, start := s.clock now }
        pulse := { s.du.pulse with send := true }
        trace := s.du.trace ++ [.tx (lineSend ++ [LF])]
        out := { s.du.out with pulse := some true } }
      linkDH := s.linkDH ++ (lineSend ++ [LF])
      env := (takeAnswer s).env })

/-- A sampled press of MODE whose write succeeds: the flag toggles, RENDER_MODE shows the new value, and `True` or `False` is
sent by the new value (R141, R145, R146). -/
def Obligations.PressOfModeTogglesAndSendsTheFlag : Prop :=
  ∀ (now : Time) (s : State), s.du.run = .running →
    ¬ SettleWindowOpen .mode (s.clock now) s → s.du.ch.mode.phase = .released → nextAnswer s = .ok →
    let line := (if s.du.modeFlag then lineFalse else lineTrue) ++ [LF]
    (s.cfg.settleScope = .perChannel → exec (.poll 1#2 false now) s = .next { s with
      du := { s.du with
        ch := { s.du.ch with mode :=
          { phase := .pressed, raw := false, settling := true, settleStart := s.clock now } }
        pulse := { s.du.pulse with mode := true }
        modeFlag := !s.du.modeFlag
        trace := s.du.trace ++ [.renderMode (!s.du.modeFlag), .tx line]
        out := { s.du.out with pulse := some true } }
      linkDH := s.linkDH ++ line
      env := (takeAnswer s).env }) ∧
    (s.cfg.settleScope = .global → exec (.poll 1#2 false now) s = .next { s with
      du := { s.du with
        ch := { s.du.ch with mode := { s.du.ch.mode with phase := .pressed, raw := false } }
        gsettle := { active := true, start := s.clock now }
        pulse := { s.du.pulse with mode := true }
        modeFlag := !s.du.modeFlag
        trace := s.du.trace ++ [.renderMode (!s.du.modeFlag), .tx line]
        out := { s.du.out with pulse := some true } }
      linkDH := s.linkDH ++ line
      env := (takeAnswer s).env })

/-- A press of SEND or MODE whose write fails after `n` bytes, in either scope: the pulse, the window and the flag are as in
any press; the prefix is on the wire, TXF is set, and nothing is retried (R141, R145, R146, R241, R272). -/
def Obligations.PressWithAFailedWrite : Prop :=
  ∀ (now : Time) (n : Nat) (s : State), s.du.run = .running → nextAnswer s = .failed n →
    (¬ SettleWindowOpen .send (s.clock now) s → s.du.ch.send.phase = .released → n < 5 →
      (s.cfg.settleScope = .perChannel → exec (.poll 0#2 false now) s = .next { s with
        du := { s.du with
          ch := { s.du.ch with send :=
            { phase := .pressed, raw := false, settling := true, settleStart := s.clock now } }
          pulse := { s.du.pulse with send := true }
          status := s.du.status ||| 0x04#8
          trace := s.du.trace ++ [.tx (lineSend ++ [LF]), .error .transportWriteFailure]
          out := { s.du.out with pulse := some true } }
        linkDH := s.linkDH ++ lineSend.take n
        env := (takeAnswer s).env }) ∧
      (s.cfg.settleScope = .global → exec (.poll 0#2 false now) s = .next { s with
        du := { s.du with
          ch := { s.du.ch with send := { s.du.ch.send with phase := .pressed, raw := false } }
          gsettle := { active := true, start := s.clock now }
          pulse := { s.du.pulse with send := true }
          status := s.du.status ||| 0x04#8
          trace := s.du.trace ++ [.tx (lineSend ++ [LF]), .error .transportWriteFailure]
          out := { s.du.out with pulse := some true } }
        linkDH := s.linkDH ++ lineSend.take n
        env := (takeAnswer s).env })) ∧
    (¬ SettleWindowOpen .mode (s.clock now) s → s.du.ch.mode.phase = .released →
      let line := (if s.du.modeFlag then lineFalse else lineTrue) ++ [LF]
      n < line.length →
      (s.cfg.settleScope = .perChannel → exec (.poll 1#2 false now) s = .next { s with
        du := { s.du with
          ch := { s.du.ch with mode :=
            { phase := .pressed, raw := false, settling := true, settleStart := s.clock now } }
          pulse := { s.du.pulse with mode := true }
          modeFlag := !s.du.modeFlag
          status := s.du.status ||| 0x04#8
          trace := s.du.trace ++ [.renderMode (!s.du.modeFlag), .tx line, .error .transportWriteFailure]
          out := { s.du.out with pulse := some true } }
        linkDH := s.linkDH ++ line.take n
        env := (takeAnswer s).env }) ∧
      (s.cfg.settleScope = .global → exec (.poll 1#2 false now) s = .next { s with
        du := { s.du with
          ch := { s.du.ch with mode := { s.du.ch.mode with phase := .pressed, raw := false } }
          gsettle := { active := true, start := s.clock now }
          pulse := { s.du.pulse with mode := true }
          modeFlag := !s.du.modeFlag
          status := s.du.status ||| 0x04#8
          trace := s.du.trace ++ [.renderMode (!s.du.modeFlag), .tx line, .error .transportWriteFailure]
          out := { s.du.out with pulse := some true } }
        linkDH := s.linkDH ++ line.take n
        env := (takeAnswer s).env }))

/-- A button held down across any number of polls gives exactly one pulse (R148). -/
def Obligations.HeldButtonGivesOnePulse : Prop :=
  ∀ (i : Channel) (t0 : Time) (nows : List Time) (s : State), s.du.run = .running →
    ¬ SettleWindowOpen i (s.clock t0) s → (s.du.ch.get i).phase = .released →
    pulsesOf i ((false, t0) :: nows.map fun t => (false, t)) s = true :: List.replicate nows.length false

/-- One press gives one pulse whatever the poll rate, if after the first poll that sees it every bounce lies within
SETTLE_TIME of that poll, and the pin is then held for some polls and released for the rest (R149). -/
def Obligations.SinglePressGivesOnePulse : Prop :=
  ∀ (i : Channel) (t0 : Time) (bounces : List (Bool × Time)) (held released : List Time) (s : State),
    s.du.run = .running → ¬ SettleWindowOpen i (s.clock t0) s → (s.du.ch.get i).phase = .released →
    (∀ b ∈ bounces, elapsed s.cfg (s.clock b.2) (s.clock t0) < s.cfg.settleTime) →
    pulsesOf i ((false, t0) :: (bounces ++ held.map (fun t => (false, t)) ++ released.map fun t => (true, t))) s =
      true :: List.replicate (bounces.length + held.length + released.length) false

/-- Two presses of MODE, each released after its window, return the flag to its value and send both control lines, the new
value first (R152). -/
def Obligations.DoubleToggleReturnsTheFlag : Prop :=
  ∀ (t1 t2 t3 t4 : Time) (s : State), s.du.run = .running →
    s.cfg.settleScope = .perChannel → ¬ SettleWindowOpen .mode (s.clock t1) s → s.du.ch.mode.phase = .released →
    s.cfg.settleTime ≤ elapsed s.cfg (s.clock t2) (s.clock t1) →
    s.cfg.settleTime ≤ elapsed s.cfg (s.clock t4) (s.clock t3) →
    (∃ rest, s.env.answers = .ok :: .ok :: rest) →
    ∃ t, runInstrs [.poll 1#2 false t1, .poll 1#2 true t2, .poll 1#2 false t3, .poll 1#2 true t4] s = .next t ∧
      t.du.modeFlag = s.du.modeFlag ∧
      t.linkDH = s.linkDH ++
        (if s.du.modeFlag then lineFalse ++ [LF] ++ (lineTrue ++ [LF]) else lineTrue ++ [LF] ++ (lineFalse ++ [LF]))

/-! ## The Tick Generator -/

/-- TICK_CHECK fires when at least TICK_INTERVAL has elapsed since the last fire, and then restarts at `now` (R230). -/
def Obligations.TickCheckFiresAfterTheInterval : Prop :=
  ∀ (now : Time) (s : State), s.du.run = .running →
    (s.cfg.tickInterval ≤ elapsed s.cfg (s.clock now) s.du.tickLastFire → exec (.tickCheck now) s =
      .next { s with du := { s.du with
        tickLastFire := s.clock now, out := { s.du.out with fire := some true } } }) ∧
    (elapsed s.cfg (s.clock now) s.du.tickLastFire < s.cfg.tickInterval → exec (.tickCheck now) s =
      .next { s with du := { s.du with out := { s.du.out with fire := some false } } })

/-- No catch-up: after a fire, however long the stall before it, further checks before TICK_INTERVAL has elapsed again do not
fire, and a check at TICK_INTERVAL does (R231, R234). -/
def Obligations.TickFiresOncePerInterval : Prop :=
  ∀ (now : Time) (d : Nat) (s : State), s.du.run = .running → d < 2 ^ s.cfg.timeWidth →
    s.cfg.tickInterval ≤ elapsed s.cfg (s.clock now) s.du.tickLastFire →
    ∃ t u, exec (.tickCheck now) s = .next t ∧ t.du.out.fire = some true ∧
      exec (.tickCheck (now + d)) t = .next u ∧ u.du.out.fire = some (decide (s.cfg.tickInterval ≤ d))

/-! ## The host -/

/-- ALERT_POST fills the mailbox, replacing a pending alert, in either phase: the label is the one posted if that is a value of
the type Label, and some value of it in every case (R207; log 14). -/
def Obligations.AlertPostReplacesTheMailbox : Prop :=
  ∀ (lab : Label) (s : State), s.host.run = .running →
    ∃ lab', LabelInType s.cfg.labels lab' ∧ (LabelInType s.cfg.labels lab → lab' = lab) ∧
      exec (.alertPost lab) s =
        .next { s with host := { s.host with mailbox := { pending := true, label := lab' } } }

/-- While POLLING, OP_SEND begins a capture; OP_GRADE2 and OP_GRADE1 set the grade; each restarts the idle timer (R202, R203,
R204). That the opcode is an instruction of its own, without HOST_POLL's latch, is the model's choice (log 12). -/
def Obligations.NonIdleOpcodes : Prop :=
  ∀ (now : Time) (s : State), s.host.run = .running → s.host.phase = .polling →
    exec (.opSend now) s = .next { s with host := { s.host with
      phase := .capture, idleStart := s.clock now, trace := s.host.trace ++ [.captureStart] } } ∧
    exec (.opGrade2 now) s = .next { s with host := { s.host with grade := .grade2, idleStart := s.clock now } } ∧
    exec (.opGrade1 now) s = .next { s with host := { s.host with grade := .grade1, idleStart := s.clock now } }

/-- OP_IDLE while POLLING with no pending alert transmits nothing; after IDLE_RECAL_INTERVAL it requests a recalibration
(R205, R208; the instruction form: log 12). -/
def Obligations.IdleOpcodeWithoutAlert : Prop :=
  ∀ (now : Time) (s : State),
    s.host.run = .running → s.host.phase = .polling → s.host.mailbox.pending = false →
    (elapsed s.cfg (s.clock now) s.host.idleStart < s.cfg.idleRecalInterval → exec (.opIdle now) s = .next s) ∧
    (s.cfg.idleRecalInterval ≤ elapsed s.cfg (s.clock now) s.host.idleStart → exec (.opIdle now) s =
      .next { s with host := { s.host with
        idleStart := s.clock now, trace := s.host.trace ++ [.recalRequest] } })

/-- OP_IDLE while POLLING with a pending alert: it is taken, its frame with header '1' is written at the host's grade, and the idle timer is
checked after it; when the write fails the alert is lost and the idle timer is checked all the same (R205, R206, R277; the
instruction form: log 12). -/
def Obligations.IdleOpcodeSendsThePendingAlert : Prop :=
  ∀ (now : Time) (s : State),
    s.host.run = .running → s.host.phase = .polling → s.host.mailbox.pending = true →
    let frame := frameBytes true (normalizeCells (Config.translate s.host.grade s.host.mailbox.label))
    let due := s.cfg.idleRecalInterval ≤ elapsed s.cfg (s.clock now) s.host.idleStart
    let idleStart' := if due then s.clock now else s.host.idleStart
    let recal := if due then [Event.recalRequest] else []
    (nextAnswer s = .ok → exec (.opIdle now) s = .next { s with
      host := { s.host with
        mailbox := { s.host.mailbox with pending := false }
        idleStart := idleStart'
        trace := s.host.trace ++ (Event.tx frame :: recal) }
      linkHD := s.linkHD ++ frame
      env := (takeAnswer s).env }) ∧
    (∀ n < 74, nextAnswer s = .failed n → exec (.opIdle now) s = .next { s with
      host := { s.host with
        mailbox := { s.host.mailbox with pending := false }
        idleStart := idleStart'
        status := s.host.status ||| 0x01#8
        trace := s.host.trace ++ (Event.tx frame :: Event.error .transportWriteFailure :: recal) }
      linkHD := s.linkHD ++ frame.take n
      env := (takeAnswer s).env })

/-- HOST_POLL while POLLING drains every complete line, decodes the last non-empty one, latches the opcode and performs that
opcode's rule; the incomplete line stays (R200, R201, R209). -/
def Obligations.HostPollRunsTheLastLine : Prop :=
  ∀ (now : Time) (lines : List Line) (rest : List Byte) (s : State),
    s.host.run = .running → s.host.phase = .polling →
    s.host.rxBuf = joinLines lines ++ rest → (∀ l ∈ lines, LF ∉ l) → LF ∉ rest →
    let op : Opcode := match (lines.filter fun l => l ≠ []).getLast? with
      | none => .idle
      | some l =>
        if l = [0x53#8, 0x45#8, 0x4E#8, 0x44#8] then .send
        else if l = [0x54#8, 0x72#8, 0x75#8, 0x65#8] then .grade2
        else if l = [0x46#8, 0x61#8, 0x6C#8, 0x73#8, 0x65#8] then .grade1
        else .idle
    let rule : Instr := match op with
      | .idle => .opIdle now
      | .send => .opSend now
      | .grade2 => .opGrade2 now
      | .grade1 => .opGrade1 now
    ∃ t, exec (.hostPoll now) s = .next t ∧
      exec rule { s with host := { s.host with rxBuf := rest, lastOp := op } } = .next t

/-- HOST_POLL during a capture, and CAPTURE_DONE while POLLING, are illegal: ILL and ERROR, nothing else (R209, R210, R275).
So is an opcode at the dispatcher's input during a capture, OP_IDLE among them: a pending alert waits and no RECAL_REQUEST
is emitted (R316, R319); that this is the poll's phase check is the model's choice (log 12). -/
def Obligations.CommandsOfTheOtherPhaseAreIllegal : Prop :=
  ∀ (now : Time) (err : Bool) (cells : List Cell) (s : State), s.host.run = .running →
    let ill : State := { s with host := { s.host with
      status := s.host.status ||| 0x04#8, trace := s.host.trace ++ [.error .illegalCommand] } }
    (s.host.phase = .capture →
      exec (.hostPoll now) s = .next ill ∧ exec (.opIdle now) s = .next ill ∧ exec (.opSend now) s = .next ill ∧
      exec (.opGrade2 now) s = .next ill ∧ exec (.opGrade1 now) s = .next ill) ∧
    (s.host.phase = .polling → exec (.captureDone err cells now) s = .next ill)

/-- CAPTURE_DONE during a capture: POLLING, the idle timer restarted, and one frame with header '0' of the first 12 cells; a
failed write leaves a prefix and TXF; ERR = 1 records RecognitionError and sends nothing (R210, R272, R273). -/
def Obligations.CaptureDoneSendsOneFrame : Prop :=
  ∀ (cells : List Cell) (now : Time) (s : State), s.host.run = .running → s.host.phase = .capture →
    ∃ g : Grid, g.cells = cells.take 12 ++ List.replicate (12 - min 12 cells.length) Cell.zero ∧
    (nextAnswer s = .ok → exec (.captureDone false cells now) s = .next { s with
      host := { s.host with
        phase := .polling, idleStart := s.clock now, trace := s.host.trace ++ [.tx (frameBytes false g)] }
      linkHD := s.linkHD ++ frameBytes false g
      env := (takeAnswer s).env }) ∧
    (∀ n < 74, nextAnswer s = .failed n → exec (.captureDone false cells now) s = .next { s with
      host := { s.host with
        phase := .polling
        idleStart := s.clock now
        status := s.host.status ||| 0x01#8
        trace := s.host.trace ++ [.tx (frameBytes false g), .error .transportWriteFailure] }
      linkHD := s.linkHD ++ (frameBytes false g).take n
      env := (takeAnswer s).env }) ∧
    exec (.captureDone true cells now) s = .next { s with host := { s.host with
      phase := .polling
      idleStart := s.clock now
      status := s.host.status ||| 0x02#8
      trace := s.host.trace ++ [.error .recognitionError] } }

/-- A received control line as an instruction, while POLLING: the opcode is latched and its rule performed; during a capture
the poll is illegal (R200, R202, R203, R204, R209). That a control line is an instruction of its own is the model's choice
(log 13). -/
def Obligations.ControlLinesRunTheirOpcode : Prop :=
  ∀ (now : Time) (s : State), s.host.run = .running →
    (s.host.phase = .polling →
      exec (.ctrlSend now) s = .next { s with host := { s.host with
        phase := .capture, lastOp := .send, idleStart := s.clock now, trace := s.host.trace ++ [.captureStart] } } ∧
      exec (.ctrlTrue now) s = .next { s with host := { s.host with
        grade := .grade2, lastOp := .grade2, idleStart := s.clock now } } ∧
      exec (.ctrlFalse now) s = .next { s with host := { s.host with
        grade := .grade1, lastOp := .grade1, idleStart := s.clock now } }) ∧
    (s.host.phase = .capture →
      let ill : State := { s with host := { s.host with
        status := s.host.status ||| 0x04#8, trace := s.host.trace ++ [.error .illegalCommand] } }
      exec (.ctrlSend now) s = .next ill ∧ exec (.ctrlTrue now) s = .next ill ∧ exec (.ctrlFalse now) s = .next ill)

/-! ## DU_POLL -/

/-- DU_POLL performs POLL of SEND, MODE and NEXT, ADVANCE by the NEXT pulse, RX_FRAME of every complete line in arrival order,
and TICK_CHECK with RENDER of the front when it fires: its next state is theirs but for the result ports (R244). -/
def Obligations.DuPollRunsItsPartsInOrder : Prop :=
  ∀ (now : Time) (pins : BitVec 3) (lines : List Line) (rest : List Byte) (s : State), s.du.run = .running →
    s.du.rxBuf = joinLines lines ++ rest → (∀ l ∈ lines, LF ∉ l) → LF ∉ rest →
    ∃ a b c d : State,
      runInstrs [.poll 0#2 (pins.getLsbD 0) now, .poll 1#2 (pins.getLsbD 1) now, .poll 2#2 (pins.getLsbD 2) now] s =
        .next a ∧
      runInstrs (.advance a.du.pulse.next :: lines.map .rxFrame)
        { a with du := { a.du with rxBuf := rest } } = .next b ∧
      exec (.tickCheck now) b = .next c ∧
      exec (.duPoll now pins) s = .next d ∧
      { d with du := { d.du with out := c.du.out } } = { c with du := { c.du with
        trace := if c.du.out.fire = some true then b.du.trace ++ [.render b.du.fifo.head?] else b.du.trace } }

/-- DU_POLL with every pin inactive, no complete line and no tick due: every channel that is sampled ends Released, no pulse,
and nothing else changes, the FIFO included (R244). That the result ports stay is the model's reading (log 28). -/
def Obligations.QuietDuPollChangesOnlyTheChannels : Prop :=
  ∀ (now : Time) (s : State), s.du.run = .running → s.cfg.settleScope = .perChannel →
    (∀ i, ¬ SettleWindowOpen i (s.clock now) s) → LF ∉ s.du.rxBuf →
    elapsed s.cfg (s.clock now) s.du.tickLastFire < s.cfg.tickInterval →
    exec (.duPoll now 7#3) s = .next { s with du := { s.du with
      ch := ⟨{ s.du.ch.send with phase := .released, raw := true, settling := false },
        { s.du.ch.mode with phase := .released, raw := true, settling := false },
        { s.du.ch.next with phase := .released, raw := true, settling := false }⟩
      pulse := ⟨false, false, false⟩ } }

/-! ## RESET and FATAL -/

/-- RESET of the DU: every element at its reset value, `now` in the tick's register, RUNNING or FATAL by OPEN_OK; the host,
the links and the trace stay, but for ERROR(InitFailure) (R246, R300, R301). -/
def Obligations.ResetOfTheDisplayUnit : Prop :=
  ∀ (now : Time) (s : State),
    let idle : ChannelState := { phase := .released, raw := true, settling := false, settleStart := 0 }
    let fresh : DuState := {
      fifo := [], ch := ⟨idle, idle, idle⟩, gsettle := ⟨false, 0⟩, pulse := ⟨false, false, false⟩, modeFlag := false
      tickLastFire := s.clock now, rxBuf := [], status := 0x00#8, run := .running
      trace := s.du.trace, out := s.du.out }
    exec (.reset .du now true) s = .next { s with du := fresh } ∧
    exec (.reset .du now false) s = .next { s with du := { fresh with
      run := .fatal, trace := s.du.trace ++ [.error .initFailure] } }

/-- RESET of the host: every element at its reset value, `now` in the idle timer, RUNNING or FATAL by OPEN_OK, the mailbox
empty with a label no rule gives; the DU, the links and the trace stay, but for ERROR(InitFailure) (R246, R300, R301). -/
def Obligations.ResetOfTheHost : Prop :=
  ∀ (now : Time) (s : State), ∃ (lab : Label) (draws : Nat),
    let fresh : HostState := {
      grade := .grade1, phase := .polling, mailbox := ⟨false, lab⟩, idleStart := s.clock now, rxBuf := []
      status := 0x00#8, run := .running, lastOp := .idle, trace := s.host.trace, out := s.host.out }
    let env : EnvState := { s.env with draws := draws }
    exec (.reset .host now true) s = .next { s with host := fresh, env := env } ∧
    exec (.reset .host now false) s = .next { s with
      host := { fresh with run := .fatal, trace := s.host.trace ++ [.error .initFailure] }, env := env }

/-- A FATAL unit accepts no command except RESET: any other instruction at it has no effect; RESET with OPEN_OK = 1 makes it
RUNNING, with OPEN_OK = 0 FATAL with InitFailure; and bytes sent to it stay in its incoming link queue (R301). That
a command turned away leaves no event is the model's reading (log 10). -/
def Obligations.FatalUnitAcceptsOnlyReset : Prop :=
  (∀ (i : Instr) (s : State), s.runOf (encode i).unit = .fatal → (∀ u now ok, i ≠ .reset u now ok) →
    exec i s = .next s) ∧
  (∀ (u : UnitId) (now : Time) (s : State), ∃ t, exec (.reset u now true) s = .next t ∧ t.runOf u = .running) ∧
  (∀ (u : UnitId) (now : Time) (s : State), ∃ t, exec (.reset u now false) s = .next t ∧ t.runOf u = .fatal ∧
    (u = .du → t.du.trace = s.du.trace ++ [.error .initFailure]) ∧
    (u = .host → t.host.trace = s.host.trace ++ [.error .initFailure])) ∧
  (∀ (l : Link) (noise : Option Byte) (s : State), s.runOf (receiver l) = .fatal → linkStep l noise s = s)

/-! ## Encodings -/

/-- Decoding an encoded well-formed instruction gives it back, for every instruction and every operand (R80, R84, R86, R91,
R92, R118). -/
def Obligations.DecodeOfEncodeIsIdentity : Prop :=
  ∀ i : Instr, i.wellFormed = true → decode (encode i) = .ok i

/-- A legal command word is the word its instruction encodes to: no bit of a command word is dropped (R91, R92, R93). -/
def Obligations.LegalCommandWordsAreDetermined : Prop :=
  ∀ (u : UnitId) (cw : BitVec 16) (d : Inputs) (i : Instr), decode (.command u cw d) = .ok i →
    i.wellFormed = true ∧ ∃ d', encode i = .command u cw d'

/-- A command word is legal at a unit's port exactly when the unit accepts its OP, every field OP does not use is 0,
CW[5:0] = 0, and for POLL CH is not 3 (R92, R93). -/
def Obligations.LegalCommandWords : Prop :=
  ∀ (u : UnitId) (cw : BitVec 16) (d : Inputs),
    let op := (cw.extractLsb' 12 4).toNat
    (∃ i, decode (.command u cw d) = .ok i) ↔
      (op ∈ [0, 1, 2, 3, 15] ∨ (u = .du ∧ op ∈ [4, 5, 6, 7, 8, 9, 13, 14]) ∨ (u = .host ∧ op ∈ [10, 11, 12])) ∧
      (op ≠ 8 → cw.extractLsb' 9 3 = 0#3) ∧ (op ≠ 7 → cw.getLsbD 8 = false) ∧ (op ≠ 1 → cw.getLsbD 7 = false) ∧
      (op ≠ 12 → cw.getLsbD 6 = false) ∧ cw.extractLsb' 0 6 = 0#6 ∧ (op = 8 → cw.extractLsb' 10 2 ≠ 3#2)

/-- A line at the DU decodes to a frame exactly when it is 73 characters '0' or '1', and then to the header and Grid whose
frame it is; no Grid comes of any other line (R115, R116, R118). -/
def Obligations.ValidLinesAreExactlyFrames : Prop :=
  ∀ (l : Line) (d : Inputs),
    (ValidFrameLine l ↔ ∃ i, decode (.line .du l d) = .ok i) ∧
    ∀ g, (decode (.line .du l d) = .ok (.frameOrdinary g) ↔ IsFrameOf l false g) ∧
      (decode (.line .du l d) = .ok (.frameAlert g) ↔ IsFrameOf l true g)

/-- The command words R95 gives as examples, decoded, and the four opcodes of R86. -/
def Obligations.ExampleWordsDecode : Prop :=
  ∀ d : Inputs,
    decode (.command .du 0x8400#16 d) = .ok (.poll 1#2 false d.now) ∧
    decode (.command .du 0x8600#16 d) = .ok (.poll 1#2 true d.now) ∧
    decode (.command .du 0x8000#16 d) = .ok (.poll 0#2 false d.now) ∧
    decode (.command .du 0x8800#16 d) = .ok (.poll 2#2 false d.now) ∧
    decode (.command .du 0x7100#16 d) = .ok (.advance true) ∧
    decode (.command .du 0x7000#16 d) = .ok (.advance false) ∧
    decode (.command .host 0x1080#16 d) = .ok (.encode .host true d.grid) ∧
    decode (.command .host 0x1000#16 d) = .ok (.encode .host false d.grid) ∧
    decode (.command .host 0xC040#16 d) = .ok (.captureDone true d.cells d.now) ∧
    decode (.command .host 0xB000#16 d) = .ok (.hostPoll d.now) ∧
    decode (.command .du 0xD000#16 d) = .ok (.duPoll d.now d.pins) ∧
    decode (.command .du 0xF000#16 d) = .ok (.reset .du d.now d.openOk) ∧
    decode (.opcode 0#2 d) = .ok (.opIdle d.now) ∧ decode (.opcode 1#2 d) = .ok (.opSend d.now) ∧
    decode (.opcode 2#2 d) = .ok (.opGrade2 d.now) ∧ decode (.opcode 3#2 d) = .ok (.opGrade1 d.now)

/-- A line that joins the prefix a failed write left to the next line, or that has lost its start to a reset, is neither a
control line at the host nor a frame at the DU (R305, R313). -/
def Obligations.DamagedLinesAreNotInstructions : Prop :=
  (∀ a ∈ [lineSend, lineTrue, lineFalse], ∀ b ∈ [lineSend, lineTrue, lineFalse], ∀ n, 1 ≤ n → n ≤ a.length →
    ∀ d : Inputs, decode (.line .host ((a ++ [LF]).take n ++ b) d) = .error .notAControlLine) ∧
  (∀ a ∈ [lineSend, lineTrue, lineFalse], ∀ n, 1 ≤ n →
    ∀ d : Inputs, decode (.line .host (a.drop n) d) = .error .notAControlLine) ∧
  (∀ (h h' : Bool) (g g' : Grid) (n : Nat) (d : Inputs), 1 ≤ n → n ≤ 73 →
    decode (.line .du ((frameBytes h g).take n ++ frameLine h' g') d) = .error (.malformedFrame .length) ∧
    decode (.line .du ((frameLine h g).drop n) d) = .error (.malformedFrame .length))

/-! ## The step -/

/-- When the next turn fixed is an instruction at a port that decodes, the step is that instruction's meaning, at the state
with the turn taken and the unit's result ports not yet valid, and nothing else changed; when it is a LINK turn, the step is
the LINK step of that link at the state with the turn taken (R65, R89, R90). That the ports are not valid is the model's
choice (log 9), the schedule its form (log 6). -/
def Obligations.StepRunsTheDecodedInstruction : Prop :=
  ∀ (rest : List Turn) (s : State),
    (∀ (p : Presented) (i : Instr), s.env.schedule = .present p :: rest → decode p = .ok i →
      (p.unit = .du → step s = exec i { s with
        du := { s.du with out := {} }, env := { s.env with schedule := rest } }) ∧
      (p.unit = .host → step s = exec i { s with
        host := { s.host with out := {} }, env := { s.env with schedule := rest } })) ∧
    (∀ (l : Link) (noise : Option Byte), s.env.schedule = .link l noise :: rest →
      step s = .next (linkStep l noise { s with env := { s.env with schedule := rest } }))

/-- When no turn is fixed, ENV chooses the agent and what it is given: the DU's loop performs DU_POLL, the host's HOST_POLL
while POLLING and CAPTURE_DONE during a capture, the alert source ALERT_POST, a link moves a byte, or a unit is reset (R8,
R90, R247, R250, R300). That ENV's choice is a free value is the model's form (log 6), that the unit's result ports are not
valid until the command drives them its choice (log 9). -/
def Obligations.StepWithoutScheduleRunsALoop : Prop :=
  ∀ (s : State), s.env.schedule = [] →
    let s' : State := { s with env := { s.env with draws := s.env.draws + 1 } }
    let atDu : State := { s' with du := { s.du with out := {} } }
    let atHost : State := { s' with host := { s.host with out := {} } }
    step s = match Config.loopTurn s.env.draws with
      | .du now pins => exec (.duPoll now pins) atDu
      | .host now err cells =>
        if s.host.phase = .polling then exec (.hostPoll now) atHost else exec (.captureDone err cells now) atHost
      | .alert lab => exec (.alertPost lab) atHost
      | .link l noise => .next (linkStep l noise s')
      | .reset .du now ok => exec (.reset .du now ok) atDu
      | .reset .host now ok => exec (.reset .host now ok) atHost

/-- What stands at a port and is no instruction. An illegal command word at a running unit raises IllegalCommand: ILL and
ERROR (R93, R275). A malformed line at a running DU is dropped with MALF, LOG_MALFORMED and ERROR (R88, R271). Any line but
a control line at a running host is a poll's idle opcode: latched, and OP_IDLE while POLLING; illegal during a capture (R88,
R200, R209, R275). Nothing else of the unit changes, and nothing at all of a FATAL one (R301; log 10). That a line is handed
to its unit as a whole is the model's choice (log 13), and so is that the unit's result ports, `out`, are then not valid
(log 9). -/
def Obligations.NonInstructionsHaveTheirEffect : Prop :=
  ∀ (r : Reject) (rest : List Turn) (s : State),
    let taken : EnvState := { s.env with schedule := rest }
    (∀ (cw : BitVec 16) (d : Inputs),
      (s.env.schedule = .present (.command .du cw d) :: rest → decode (.command .du cw d) = .error r →
        s.du.run = .running → step s = .next { s with
          du := { s.du with
            status := s.du.status ||| 0x08#8, trace := s.du.trace ++ [.error .illegalCommand], out := {} }
          env := taken }) ∧
      (s.env.schedule = .present (.command .host cw d) :: rest → decode (.command .host cw d) = .error r →
        s.host.run = .running → step s = .next { s with
          host := { s.host with
            status := s.host.status ||| 0x04#8, trace := s.host.trace ++ [.error .illegalCommand], out := {} }
          env := taken })) ∧
    (∀ (l : Line) (d : Inputs),
      (s.env.schedule = .present (.line .du l d) :: rest → decode (.line .du l d) = .error r →
        s.du.run = .running → step s = .next { s with
          du := { s.du with
            status := s.du.status ||| 0x01#8
            trace := s.du.trace ++ [.logMalformed l, .error .malformedFrame]
            out := {} }
          env := taken }) ∧
      (s.env.schedule = .present (.line .host l d) :: rest → decode (.line .host l d) = .error r →
        s.host.run = .running →
        (s.host.phase = .polling → ∃ t, step s = .next t ∧
          exec (.opIdle d.now) { s with host := { s.host with lastOp := .idle, out := {} }, env := taken } = .next t) ∧
        (s.host.phase = .capture → step s = .next { s with
          host := { s.host with
            status := s.host.status ||| 0x04#8, trace := s.host.trace ++ [.error .illegalCommand], out := {} }
          env := taken }))) ∧
    (∀ p : Presented, s.env.schedule = .present p :: rest → decode p = .error r → s.runOf p.unit = .fatal →
      (p.unit = .du → step s = .next { s with du := { s.du with out := {} }, env := taken }) ∧
      (p.unit = .host → step s = .next { s with host := { s.host with out := {} }, env := taken }))

/-- Every step ends in a next state: no error, line or command stops the machine (R247, R277). -/
def Obligations.EveryStepAnswers : Prop := ∀ s : State, ∃ t, step s = .next t

/-- Every step keeps the invariant: the FIFO's bound, times of TIME_WIDTH bits, reserved status bits 0, Pressed exactly when
the last sample was active, pulses and settle windows only while Pressed, the mailbox's label of its type (R13, R23, R24,
R25, R30, R34, R37, R144). -/
def Obligations.StepKeepsTheInvariant : Prop := ∀ s t : State, StateOk s → step s = .next t → StateOk t

/-- The state after power-on has the invariant (R44, R300). -/
def Obligations.ResetHasTheInvariant : Prop := StateOk State.reset

/-- Every step keeps the event discipline: each unit's trace holds only events of that unit; the DU writes only control lines
and the host only frames, and a line the DU logs as malformed is no frame (R14, R271, R320). -/
def Obligations.StepKeepsTheEventDiscipline : Prop :=
  TracesOk State.reset ∧ ∀ s t : State, TracesOk s → step s = .next t → TracesOk t

/-- No step, RESET included, removes an event from a trace or changes a parameter (R41, R43). -/
def Obligations.StepKeepsTracesAndParameters : Prop :=
  ∀ s t : State, step s = .next t →
    s.du.trace <+: t.du.trace ∧ s.host.trace <+: t.host.trace ∧ t.cfg = s.cfg

/-- Status bits are sticky: an instruction other than a RESET, and a LINK step, clears none (R30, R37, R278). -/
def Obligations.StatusBitsAreSticky : Prop :=
  (∀ (i : Instr) (s t : State), exec i s = .next t → (∀ u now ok, i ≠ .reset u now ok) →
    s.du.status ||| t.du.status = t.du.status ∧ s.host.status ||| t.host.status = t.host.status) ∧
  (∀ (l : Link) (noise : Option Byte) (s : State),
    (linkStep l noise s).du.status = s.du.status ∧ (linkStep l noise s).host.status = s.host.status)

/-- The units share no state (R8, R284). A DU instruction changes nothing of the host's and only appends to its own outgoing
queue; and it reads nothing of the host's: from two states that differ only in the host's record and LINK_HD it leads to
states that differ only there, and there not from what they were. Likewise a host instruction. -/
def Obligations.UnitsShareNoState : Prop :=
  ∀ (i : Instr) (s : State),
    ((encode i).unit = .du →
      (∀ t, exec i s = .next t → t.host = s.host ∧ t.linkHD = s.linkHD ∧ s.linkDH <+: t.linkDH) ∧
      ∀ (h : HostState) (q : List Byte), ∃ t, exec i s = .next t ∧
        exec i { s with host := h, linkHD := q } = .next { t with host := h, linkHD := q }) ∧
    ((encode i).unit = .host →
      (∀ t, exec i s = .next t → t.du = s.du ∧ t.linkDH = s.linkDH ∧ s.linkHD <+: t.linkHD) ∧
      ∀ (d : DuState) (q : List Byte), ∃ t, exec i s = .next t ∧
        exec i { s with du := d, linkDH := q } = .next { t with du := d, linkDH := q })

/-- The mode flag is written only by a POLL of MODE, by DU_POLL and by a RESET of the DU; the grade only by OP_GRADE2,
OP_GRADE1, the poll or control line that runs them, and a RESET of the host (R27, R32). -/
def Obligations.ModeAndGradeHaveFewWriters : Prop :=
  ∀ (i : Instr) (s t : State), exec i s = .next t →
    ((∀ p now, i ≠ .poll 1#2 p now) → (∀ now pins, i ≠ .duPoll now pins) → (∀ now ok, i ≠ .reset .du now ok) →
      t.du.modeFlag = s.du.modeFlag) ∧
    ((∀ now, i ≠ .opGrade2 now ∧ i ≠ .opGrade1 now ∧ i ≠ .hostPoll now ∧ i ≠ .ctrlTrue now ∧ i ≠ .ctrlFalse now) →
      (∀ now ok, i ≠ .reset .host now ok) → t.host.grade = s.host.grade)

/-- An entry leaves the FIFO only by a consuming ADVANCE (alone or in DU_POLL), by eviction at a full PUSH_FRONT, or by a RESET
of the DU; entries never change places and equal entries are not merged (R253). -/
def Obligations.FifoEntriesStay : Prop :=
  ∀ (i : Instr) (s t : State), exec i s = .next t →
    i ≠ .advance true → (∀ now pins, i ≠ .duPoll now pins) → (∀ now ok, i ≠ .reset .du now ok) →
    s.du.fifo.Sublist t.du.fifo ∨
      ∃ g n, FifoFull s n ∧ t.du.fifo = g :: s.du.fifo.take (n - 1) ∧ t.du.status.getLsbD 1 = true

/-- The mailbox's label is never read while no alert is pending: two states that differ only in it take any instruction to
states that differ only in it, and not at all once an alert is pending (R34). -/
def Obligations.LabelIsNotReadWithoutAPendingAlert : Prop :=
  ∀ (i : Instr) (lab : Label) (s : State), s.host.mailbox.pending = false →
    ∃ (t : State) (lab' : Label), exec i s = .next t ∧
      exec i { s with host := { s.host with mailbox := { s.host.mailbox with label := lab } } } =
        .next { t with host := { t.host with mailbox := { t.host.mailbox with label := lab' } } } ∧
      (t.host.mailbox.pending = true → lab' = t.host.mailbox.label)

/-! ## The link -/

/-- A LINK step moves the first byte of a non-empty queue to the end of a running receiver's rx_buf: unchanged with
LINK_CORRUPTION = NONE, and with ANY the byte ENV draws in its place (R65, R66). -/
def Obligations.LinkStepMovesOneByte : Prop :=
  ∀ (b : Byte) (q : List Byte) (noise : Option Byte) (s : State),
    let b' := match s.cfg.linkCorruption, noise with | .any, some x => x | _, _ => b
    (s.du.run = .running → s.linkHD = b :: q →
      linkStep .hd noise s = { s with linkHD := q, du := { s.du with rxBuf := s.du.rxBuf ++ [b'] } }) ∧
    (s.host.run = .running → s.linkDH = b :: q →
      linkStep .dh noise s = { s with linkDH := q, host := { s.host with rxBuf := s.host.rxBuf ++ [b'] } })

/-- With LINK_CORRUPTION = NONE a running receiver, the DU of LINK_HD and the host of LINK_DH, gets the bytes written, in
order, none lost or doubled (R65, R71). -/
def Obligations.LinkDeliversInOrder : Prop :=
  ∀ (bs q : List Byte) (noises : List (Option Byte)) (s : State),
    s.cfg.linkCorruption = .none → noises.length = bs.length →
    (s.du.run = .running → s.linkHD = bs ++ q →
      linkSteps .hd noises s = { s with linkHD := q, du := { s.du with rxBuf := s.du.rxBuf ++ bs } }) ∧
    (s.host.run = .running → s.linkDH = bs ++ q →
      linkSteps .dh noises s = { s with linkDH := q, host := { s.host with rxBuf := s.host.rxBuf ++ bs } })

/-- RX_DRAIN returns the complete lines in arrival order, each without its LF, and leaves the incomplete line (R243). -/
def Obligations.RxDrainSplitsAtEveryLF : Prop :=
  ∀ (lines : List Line) (rest : List Byte) (s : State), (∀ l ∈ lines, LF ∉ l) → LF ∉ rest →
    (s.du.rxBuf = joinLines lines ++ rest →
      drainedLines .du s = lines ∧ rxDrain .du s = { s with du := { s.du with rxBuf := rest } }) ∧
    (s.host.rxBuf = joinLines lines ++ rest →
      drainedLines .host s = lines ∧ rxDrain .host s = { s with host := { s.host with rxBuf := rest } })

/-- End to end, with LINK_CORRUPTION = NONE and a write that succeeds: the Grid of a captured text reaches the back of the DU's
FIFO after its 74 bytes are delivered and the DU polls with no NEXT press (R65, R66, R115, R117, R171, R210, R244). -/
def Obligations.CapturedTextReachesTheFifo : Prop :=
  ∀ (cells : List Cell) (now now' : Time) (pins : BitVec 3) (noises : List (Option Byte)) (s : State),
    s.host.run = .running → s.host.phase = .capture → nextAnswer s = .ok →
    s.du.run = .running → s.cfg.linkCorruption = .none → s.linkHD = [] → s.du.rxBuf = [] → FifoHasRoom s →
    noises.length = 74 → pins.getLsbD 2 = true →
    ∃ t u g, exec (.captureDone false cells now) s = .next t ∧ exec (.duPoll now' pins) (linkSteps .hd noises t) = .next u ∧
      u.linkHD = [] ∧ u.du.rxBuf = [] ∧ u.du.fifo = s.du.fifo ++ [g] ∧
      g.cells = cells.take 12 ++ List.replicate (12 - min 12 cells.length) Cell.zero
end

