-- ==== Sys2Proof/Laws/State.lean ====
section
/-!
SUPPORT. One lemma for each field of each update of the state, so that no later proof unfolds a record update.
-/

namespace Sys2Proof.Machine

/-! `setFifo` -/
@[simp] theorem State.setFifo_du_fifo (s : State) (x : List Grid) : (s.setFifo x).du.fifo = x := rfl
@[simp] theorem State.setFifo_du_ch (s : State) (x : List Grid) : (s.setFifo x).du.ch = s.du.ch := rfl
@[simp] theorem State.setFifo_du_gsettle (s : State) (x : List Grid) : (s.setFifo x).du.gsettle = s.du.gsettle := rfl
@[simp] theorem State.setFifo_du_pulse (s : State) (x : List Grid) : (s.setFifo x).du.pulse = s.du.pulse := rfl
@[simp] theorem State.setFifo_du_modeFlag (s : State) (x : List Grid) : (s.setFifo x).du.modeFlag = s.du.modeFlag := rfl
@[simp] theorem State.setFifo_du_tickLastFire (s : State) (x : List Grid) : (s.setFifo x).du.tickLastFire = s.du.tickLastFire := rfl
@[simp] theorem State.setFifo_du_rxBuf (s : State) (x : List Grid) : (s.setFifo x).du.rxBuf = s.du.rxBuf := rfl
@[simp] theorem State.setFifo_du_status (s : State) (x : List Grid) : (s.setFifo x).du.status = s.du.status := rfl
@[simp] theorem State.setFifo_du_run (s : State) (x : List Grid) : (s.setFifo x).du.run = s.du.run := rfl
@[simp] theorem State.setFifo_du_trace (s : State) (x : List Grid) : (s.setFifo x).du.trace = s.du.trace := rfl
@[simp] theorem State.setFifo_du_out (s : State) (x : List Grid) : (s.setFifo x).du.out = s.du.out := rfl
@[simp] theorem State.setFifo_host (s : State) (x : List Grid) : (s.setFifo x).host = s.host := rfl
@[simp] theorem State.setFifo_linkHD (s : State) (x : List Grid) : (s.setFifo x).linkHD = s.linkHD := rfl
@[simp] theorem State.setFifo_linkDH (s : State) (x : List Grid) : (s.setFifo x).linkDH = s.linkDH := rfl
@[simp] theorem State.setFifo_cfg (s : State) (x : List Grid) : (s.setFifo x).cfg = s.cfg := rfl
@[simp] theorem State.setFifo_env (s : State) (x : List Grid) : (s.setFifo x).env = s.env := rfl

/-! `setChannel` -/
@[simp] theorem State.setChannel_du_fifo (s : State) (i : Channel) (x : ChannelState) : (s.setChannel i x).du.fifo = s.du.fifo := rfl
@[simp] theorem State.setChannel_du_ch (s : State) (i : Channel) (x : ChannelState) : (s.setChannel i x).du.ch = s.du.ch.set i x := rfl
@[simp] theorem State.setChannel_du_gsettle (s : State) (i : Channel) (x : ChannelState) : (s.setChannel i x).du.gsettle = s.du.gsettle := rfl
@[simp] theorem State.setChannel_du_pulse (s : State) (i : Channel) (x : ChannelState) : (s.setChannel i x).du.pulse = s.du.pulse := rfl
@[simp] theorem State.setChannel_du_modeFlag (s : State) (i : Channel) (x : ChannelState) : (s.setChannel i x).du.modeFlag = s.du.modeFlag := rfl
@[simp] theorem State.setChannel_du_tickLastFire (s : State) (i : Channel) (x : ChannelState) : (s.setChannel i x).du.tickLastFire = s.du.tickLastFire := rfl
@[simp] theorem State.setChannel_du_rxBuf (s : State) (i : Channel) (x : ChannelState) : (s.setChannel i x).du.rxBuf = s.du.rxBuf := rfl
@[simp] theorem State.setChannel_du_status (s : State) (i : Channel) (x : ChannelState) : (s.setChannel i x).du.status = s.du.status := rfl
@[simp] theorem State.setChannel_du_run (s : State) (i : Channel) (x : ChannelState) : (s.setChannel i x).du.run = s.du.run := rfl
@[simp] theorem State.setChannel_du_trace (s : State) (i : Channel) (x : ChannelState) : (s.setChannel i x).du.trace = s.du.trace := rfl
@[simp] theorem State.setChannel_du_out (s : State) (i : Channel) (x : ChannelState) : (s.setChannel i x).du.out = s.du.out := rfl
@[simp] theorem State.setChannel_host (s : State) (i : Channel) (x : ChannelState) : (s.setChannel i x).host = s.host := rfl
@[simp] theorem State.setChannel_linkHD (s : State) (i : Channel) (x : ChannelState) : (s.setChannel i x).linkHD = s.linkHD := rfl
@[simp] theorem State.setChannel_linkDH (s : State) (i : Channel) (x : ChannelState) : (s.setChannel i x).linkDH = s.linkDH := rfl
@[simp] theorem State.setChannel_cfg (s : State) (i : Channel) (x : ChannelState) : (s.setChannel i x).cfg = s.cfg := rfl
@[simp] theorem State.setChannel_env (s : State) (i : Channel) (x : ChannelState) : (s.setChannel i x).env = s.env := rfl

/-! `setGsettle` -/
@[simp] theorem State.setGsettle_du_fifo (s : State) (x : GlobalSettle) : (s.setGsettle x).du.fifo = s.du.fifo := rfl
@[simp] theorem State.setGsettle_du_ch (s : State) (x : GlobalSettle) : (s.setGsettle x).du.ch = s.du.ch := rfl
@[simp] theorem State.setGsettle_du_gsettle (s : State) (x : GlobalSettle) : (s.setGsettle x).du.gsettle = x := rfl
@[simp] theorem State.setGsettle_du_pulse (s : State) (x : GlobalSettle) : (s.setGsettle x).du.pulse = s.du.pulse := rfl
@[simp] theorem State.setGsettle_du_modeFlag (s : State) (x : GlobalSettle) : (s.setGsettle x).du.modeFlag = s.du.modeFlag := rfl
@[simp] theorem State.setGsettle_du_tickLastFire (s : State) (x : GlobalSettle) : (s.setGsettle x).du.tickLastFire = s.du.tickLastFire := rfl
@[simp] theorem State.setGsettle_du_rxBuf (s : State) (x : GlobalSettle) : (s.setGsettle x).du.rxBuf = s.du.rxBuf := rfl
@[simp] theorem State.setGsettle_du_status (s : State) (x : GlobalSettle) : (s.setGsettle x).du.status = s.du.status := rfl
@[simp] theorem State.setGsettle_du_run (s : State) (x : GlobalSettle) : (s.setGsettle x).du.run = s.du.run := rfl
@[simp] theorem State.setGsettle_du_trace (s : State) (x : GlobalSettle) : (s.setGsettle x).du.trace = s.du.trace := rfl
@[simp] theorem State.setGsettle_du_out (s : State) (x : GlobalSettle) : (s.setGsettle x).du.out = s.du.out := rfl
@[simp] theorem State.setGsettle_host (s : State) (x : GlobalSettle) : (s.setGsettle x).host = s.host := rfl
@[simp] theorem State.setGsettle_linkHD (s : State) (x : GlobalSettle) : (s.setGsettle x).linkHD = s.linkHD := rfl
@[simp] theorem State.setGsettle_linkDH (s : State) (x : GlobalSettle) : (s.setGsettle x).linkDH = s.linkDH := rfl
@[simp] theorem State.setGsettle_cfg (s : State) (x : GlobalSettle) : (s.setGsettle x).cfg = s.cfg := rfl
@[simp] theorem State.setGsettle_env (s : State) (x : GlobalSettle) : (s.setGsettle x).env = s.env := rfl

/-! `setPulse` -/
@[simp] theorem State.setPulse_du_fifo (s : State) (i : Channel) (x : Bool) : (s.setPulse i x).du.fifo = s.du.fifo := rfl
@[simp] theorem State.setPulse_du_ch (s : State) (i : Channel) (x : Bool) : (s.setPulse i x).du.ch = s.du.ch := rfl
@[simp] theorem State.setPulse_du_gsettle (s : State) (i : Channel) (x : Bool) : (s.setPulse i x).du.gsettle = s.du.gsettle := rfl
@[simp] theorem State.setPulse_du_pulse (s : State) (i : Channel) (x : Bool) : (s.setPulse i x).du.pulse = s.du.pulse.set i x := rfl
@[simp] theorem State.setPulse_du_modeFlag (s : State) (i : Channel) (x : Bool) : (s.setPulse i x).du.modeFlag = s.du.modeFlag := rfl
@[simp] theorem State.setPulse_du_tickLastFire (s : State) (i : Channel) (x : Bool) : (s.setPulse i x).du.tickLastFire = s.du.tickLastFire := rfl
@[simp] theorem State.setPulse_du_rxBuf (s : State) (i : Channel) (x : Bool) : (s.setPulse i x).du.rxBuf = s.du.rxBuf := rfl
@[simp] theorem State.setPulse_du_status (s : State) (i : Channel) (x : Bool) : (s.setPulse i x).du.status = s.du.status := rfl
@[simp] theorem State.setPulse_du_run (s : State) (i : Channel) (x : Bool) : (s.setPulse i x).du.run = s.du.run := rfl
@[simp] theorem State.setPulse_du_trace (s : State) (i : Channel) (x : Bool) : (s.setPulse i x).du.trace = s.du.trace := rfl
@[simp] theorem State.setPulse_du_out (s : State) (i : Channel) (x : Bool) : (s.setPulse i x).du.out = s.du.out := rfl
@[simp] theorem State.setPulse_host (s : State) (i : Channel) (x : Bool) : (s.setPulse i x).host = s.host := rfl
@[simp] theorem State.setPulse_linkHD (s : State) (i : Channel) (x : Bool) : (s.setPulse i x).linkHD = s.linkHD := rfl
@[simp] theorem State.setPulse_linkDH (s : State) (i : Channel) (x : Bool) : (s.setPulse i x).linkDH = s.linkDH := rfl
@[simp] theorem State.setPulse_cfg (s : State) (i : Channel) (x : Bool) : (s.setPulse i x).cfg = s.cfg := rfl
@[simp] theorem State.setPulse_env (s : State) (i : Channel) (x : Bool) : (s.setPulse i x).env = s.env := rfl

/-! `setModeFlag` -/
@[simp] theorem State.setModeFlag_du_fifo (s : State) (x : Bool) : (s.setModeFlag x).du.fifo = s.du.fifo := rfl
@[simp] theorem State.setModeFlag_du_ch (s : State) (x : Bool) : (s.setModeFlag x).du.ch = s.du.ch := rfl
@[simp] theorem State.setModeFlag_du_gsettle (s : State) (x : Bool) : (s.setModeFlag x).du.gsettle = s.du.gsettle := rfl
@[simp] theorem State.setModeFlag_du_pulse (s : State) (x : Bool) : (s.setModeFlag x).du.pulse = s.du.pulse := rfl
@[simp] theorem State.setModeFlag_du_modeFlag (s : State) (x : Bool) : (s.setModeFlag x).du.modeFlag = x := rfl
@[simp] theorem State.setModeFlag_du_tickLastFire (s : State) (x : Bool) : (s.setModeFlag x).du.tickLastFire = s.du.tickLastFire := rfl
@[simp] theorem State.setModeFlag_du_rxBuf (s : State) (x : Bool) : (s.setModeFlag x).du.rxBuf = s.du.rxBuf := rfl
@[simp] theorem State.setModeFlag_du_status (s : State) (x : Bool) : (s.setModeFlag x).du.status = s.du.status := rfl
@[simp] theorem State.setModeFlag_du_run (s : State) (x : Bool) : (s.setModeFlag x).du.run = s.du.run := rfl
@[simp] theorem State.setModeFlag_du_trace (s : State) (x : Bool) : (s.setModeFlag x).du.trace = s.du.trace := rfl
@[simp] theorem State.setModeFlag_du_out (s : State) (x : Bool) : (s.setModeFlag x).du.out = s.du.out := rfl
@[simp] theorem State.setModeFlag_host (s : State) (x : Bool) : (s.setModeFlag x).host = s.host := rfl
@[simp] theorem State.setModeFlag_linkHD (s : State) (x : Bool) : (s.setModeFlag x).linkHD = s.linkHD := rfl
@[simp] theorem State.setModeFlag_linkDH (s : State) (x : Bool) : (s.setModeFlag x).linkDH = s.linkDH := rfl
@[simp] theorem State.setModeFlag_cfg (s : State) (x : Bool) : (s.setModeFlag x).cfg = s.cfg := rfl
@[simp] theorem State.setModeFlag_env (s : State) (x : Bool) : (s.setModeFlag x).env = s.env := rfl

/-! `setTickLastFire` -/
@[simp] theorem State.setTickLastFire_du_fifo (s : State) (x : Time) : (s.setTickLastFire x).du.fifo = s.du.fifo := rfl
@[simp] theorem State.setTickLastFire_du_ch (s : State) (x : Time) : (s.setTickLastFire x).du.ch = s.du.ch := rfl
@[simp] theorem State.setTickLastFire_du_gsettle (s : State) (x : Time) : (s.setTickLastFire x).du.gsettle = s.du.gsettle := rfl
@[simp] theorem State.setTickLastFire_du_pulse (s : State) (x : Time) : (s.setTickLastFire x).du.pulse = s.du.pulse := rfl
@[simp] theorem State.setTickLastFire_du_modeFlag (s : State) (x : Time) : (s.setTickLastFire x).du.modeFlag = s.du.modeFlag := rfl
@[simp] theorem State.setTickLastFire_du_tickLastFire (s : State) (x : Time) : (s.setTickLastFire x).du.tickLastFire = x := rfl
@[simp] theorem State.setTickLastFire_du_rxBuf (s : State) (x : Time) : (s.setTickLastFire x).du.rxBuf = s.du.rxBuf := rfl
@[simp] theorem State.setTickLastFire_du_status (s : State) (x : Time) : (s.setTickLastFire x).du.status = s.du.status := rfl
@[simp] theorem State.setTickLastFire_du_run (s : State) (x : Time) : (s.setTickLastFire x).du.run = s.du.run := rfl
@[simp] theorem State.setTickLastFire_du_trace (s : State) (x : Time) : (s.setTickLastFire x).du.trace = s.du.trace := rfl
@[simp] theorem State.setTickLastFire_du_out (s : State) (x : Time) : (s.setTickLastFire x).du.out = s.du.out := rfl
@[simp] theorem State.setTickLastFire_host (s : State) (x : Time) : (s.setTickLastFire x).host = s.host := rfl
@[simp] theorem State.setTickLastFire_linkHD (s : State) (x : Time) : (s.setTickLastFire x).linkHD = s.linkHD := rfl
@[simp] theorem State.setTickLastFire_linkDH (s : State) (x : Time) : (s.setTickLastFire x).linkDH = s.linkDH := rfl
@[simp] theorem State.setTickLastFire_cfg (s : State) (x : Time) : (s.setTickLastFire x).cfg = s.cfg := rfl
@[simp] theorem State.setTickLastFire_env (s : State) (x : Time) : (s.setTickLastFire x).env = s.env := rfl

/-! `setGrade` -/
@[simp] theorem State.setGrade_host_grade (s : State) (x : Grade) : (s.setGrade x).host.grade = x := rfl
@[simp] theorem State.setGrade_host_phase (s : State) (x : Grade) : (s.setGrade x).host.phase = s.host.phase := rfl
@[simp] theorem State.setGrade_host_mailbox (s : State) (x : Grade) : (s.setGrade x).host.mailbox = s.host.mailbox := rfl
@[simp] theorem State.setGrade_host_idleStart (s : State) (x : Grade) : (s.setGrade x).host.idleStart = s.host.idleStart := rfl
@[simp] theorem State.setGrade_host_rxBuf (s : State) (x : Grade) : (s.setGrade x).host.rxBuf = s.host.rxBuf := rfl
@[simp] theorem State.setGrade_host_status (s : State) (x : Grade) : (s.setGrade x).host.status = s.host.status := rfl
@[simp] theorem State.setGrade_host_run (s : State) (x : Grade) : (s.setGrade x).host.run = s.host.run := rfl
@[simp] theorem State.setGrade_host_lastOp (s : State) (x : Grade) : (s.setGrade x).host.lastOp = s.host.lastOp := rfl
@[simp] theorem State.setGrade_host_trace (s : State) (x : Grade) : (s.setGrade x).host.trace = s.host.trace := rfl
@[simp] theorem State.setGrade_host_out (s : State) (x : Grade) : (s.setGrade x).host.out = s.host.out := rfl
@[simp] theorem State.setGrade_du (s : State) (x : Grade) : (s.setGrade x).du = s.du := rfl
@[simp] theorem State.setGrade_linkHD (s : State) (x : Grade) : (s.setGrade x).linkHD = s.linkHD := rfl
@[simp] theorem State.setGrade_linkDH (s : State) (x : Grade) : (s.setGrade x).linkDH = s.linkDH := rfl
@[simp] theorem State.setGrade_cfg (s : State) (x : Grade) : (s.setGrade x).cfg = s.cfg := rfl
@[simp] theorem State.setGrade_env (s : State) (x : Grade) : (s.setGrade x).env = s.env := rfl

/-! `setHostPhase` -/
@[simp] theorem State.setHostPhase_host_grade (s : State) (x : HostPhase) : (s.setHostPhase x).host.grade = s.host.grade := rfl
@[simp] theorem State.setHostPhase_host_phase (s : State) (x : HostPhase) : (s.setHostPhase x).host.phase = x := rfl
@[simp] theorem State.setHostPhase_host_mailbox (s : State) (x : HostPhase) : (s.setHostPhase x).host.mailbox = s.host.mailbox := rfl
@[simp] theorem State.setHostPhase_host_idleStart (s : State) (x : HostPhase) : (s.setHostPhase x).host.idleStart = s.host.idleStart := rfl
@[simp] theorem State.setHostPhase_host_rxBuf (s : State) (x : HostPhase) : (s.setHostPhase x).host.rxBuf = s.host.rxBuf := rfl
@[simp] theorem State.setHostPhase_host_status (s : State) (x : HostPhase) : (s.setHostPhase x).host.status = s.host.status := rfl
@[simp] theorem State.setHostPhase_host_run (s : State) (x : HostPhase) : (s.setHostPhase x).host.run = s.host.run := rfl
@[simp] theorem State.setHostPhase_host_lastOp (s : State) (x : HostPhase) : (s.setHostPhase x).host.lastOp = s.host.lastOp := rfl
@[simp] theorem State.setHostPhase_host_trace (s : State) (x : HostPhase) : (s.setHostPhase x).host.trace = s.host.trace := rfl
@[simp] theorem State.setHostPhase_host_out (s : State) (x : HostPhase) : (s.setHostPhase x).host.out = s.host.out := rfl
@[simp] theorem State.setHostPhase_du (s : State) (x : HostPhase) : (s.setHostPhase x).du = s.du := rfl
@[simp] theorem State.setHostPhase_linkHD (s : State) (x : HostPhase) : (s.setHostPhase x).linkHD = s.linkHD := rfl
@[simp] theorem State.setHostPhase_linkDH (s : State) (x : HostPhase) : (s.setHostPhase x).linkDH = s.linkDH := rfl
@[simp] theorem State.setHostPhase_cfg (s : State) (x : HostPhase) : (s.setHostPhase x).cfg = s.cfg := rfl
@[simp] theorem State.setHostPhase_env (s : State) (x : HostPhase) : (s.setHostPhase x).env = s.env := rfl

/-! `setMailbox` -/
@[simp] theorem State.setMailbox_host_grade (s : State) (x : Mailbox) : (s.setMailbox x).host.grade = s.host.grade := rfl
@[simp] theorem State.setMailbox_host_phase (s : State) (x : Mailbox) : (s.setMailbox x).host.phase = s.host.phase := rfl
@[simp] theorem State.setMailbox_host_mailbox (s : State) (x : Mailbox) : (s.setMailbox x).host.mailbox = x := rfl
@[simp] theorem State.setMailbox_host_idleStart (s : State) (x : Mailbox) : (s.setMailbox x).host.idleStart = s.host.idleStart := rfl
@[simp] theorem State.setMailbox_host_rxBuf (s : State) (x : Mailbox) : (s.setMailbox x).host.rxBuf = s.host.rxBuf := rfl
@[simp] theorem State.setMailbox_host_status (s : State) (x : Mailbox) : (s.setMailbox x).host.status = s.host.status := rfl
@[simp] theorem State.setMailbox_host_run (s : State) (x : Mailbox) : (s.setMailbox x).host.run = s.host.run := rfl
@[simp] theorem State.setMailbox_host_lastOp (s : State) (x : Mailbox) : (s.setMailbox x).host.lastOp = s.host.lastOp := rfl
@[simp] theorem State.setMailbox_host_trace (s : State) (x : Mailbox) : (s.setMailbox x).host.trace = s.host.trace := rfl
@[simp] theorem State.setMailbox_host_out (s : State) (x : Mailbox) : (s.setMailbox x).host.out = s.host.out := rfl
@[simp] theorem State.setMailbox_du (s : State) (x : Mailbox) : (s.setMailbox x).du = s.du := rfl
@[simp] theorem State.setMailbox_linkHD (s : State) (x : Mailbox) : (s.setMailbox x).linkHD = s.linkHD := rfl
@[simp] theorem State.setMailbox_linkDH (s : State) (x : Mailbox) : (s.setMailbox x).linkDH = s.linkDH := rfl
@[simp] theorem State.setMailbox_cfg (s : State) (x : Mailbox) : (s.setMailbox x).cfg = s.cfg := rfl
@[simp] theorem State.setMailbox_env (s : State) (x : Mailbox) : (s.setMailbox x).env = s.env := rfl

/-! `setIdleStart` -/
@[simp] theorem State.setIdleStart_host_grade (s : State) (x : Time) : (s.setIdleStart x).host.grade = s.host.grade := rfl
@[simp] theorem State.setIdleStart_host_phase (s : State) (x : Time) : (s.setIdleStart x).host.phase = s.host.phase := rfl
@[simp] theorem State.setIdleStart_host_mailbox (s : State) (x : Time) : (s.setIdleStart x).host.mailbox = s.host.mailbox := rfl
@[simp] theorem State.setIdleStart_host_idleStart (s : State) (x : Time) : (s.setIdleStart x).host.idleStart = x := rfl
@[simp] theorem State.setIdleStart_host_rxBuf (s : State) (x : Time) : (s.setIdleStart x).host.rxBuf = s.host.rxBuf := rfl
@[simp] theorem State.setIdleStart_host_status (s : State) (x : Time) : (s.setIdleStart x).host.status = s.host.status := rfl
@[simp] theorem State.setIdleStart_host_run (s : State) (x : Time) : (s.setIdleStart x).host.run = s.host.run := rfl
@[simp] theorem State.setIdleStart_host_lastOp (s : State) (x : Time) : (s.setIdleStart x).host.lastOp = s.host.lastOp := rfl
@[simp] theorem State.setIdleStart_host_trace (s : State) (x : Time) : (s.setIdleStart x).host.trace = s.host.trace := rfl
@[simp] theorem State.setIdleStart_host_out (s : State) (x : Time) : (s.setIdleStart x).host.out = s.host.out := rfl
@[simp] theorem State.setIdleStart_du (s : State) (x : Time) : (s.setIdleStart x).du = s.du := rfl
@[simp] theorem State.setIdleStart_linkHD (s : State) (x : Time) : (s.setIdleStart x).linkHD = s.linkHD := rfl
@[simp] theorem State.setIdleStart_linkDH (s : State) (x : Time) : (s.setIdleStart x).linkDH = s.linkDH := rfl
@[simp] theorem State.setIdleStart_cfg (s : State) (x : Time) : (s.setIdleStart x).cfg = s.cfg := rfl
@[simp] theorem State.setIdleStart_env (s : State) (x : Time) : (s.setIdleStart x).env = s.env := rfl

/-! `setLastOp` -/
@[simp] theorem State.setLastOp_host_grade (s : State) (x : Opcode) : (s.setLastOp x).host.grade = s.host.grade := rfl
@[simp] theorem State.setLastOp_host_phase (s : State) (x : Opcode) : (s.setLastOp x).host.phase = s.host.phase := rfl
@[simp] theorem State.setLastOp_host_mailbox (s : State) (x : Opcode) : (s.setLastOp x).host.mailbox = s.host.mailbox := rfl
@[simp] theorem State.setLastOp_host_idleStart (s : State) (x : Opcode) : (s.setLastOp x).host.idleStart = s.host.idleStart := rfl
@[simp] theorem State.setLastOp_host_rxBuf (s : State) (x : Opcode) : (s.setLastOp x).host.rxBuf = s.host.rxBuf := rfl
@[simp] theorem State.setLastOp_host_status (s : State) (x : Opcode) : (s.setLastOp x).host.status = s.host.status := rfl
@[simp] theorem State.setLastOp_host_run (s : State) (x : Opcode) : (s.setLastOp x).host.run = s.host.run := rfl
@[simp] theorem State.setLastOp_host_lastOp (s : State) (x : Opcode) : (s.setLastOp x).host.lastOp = x := rfl
@[simp] theorem State.setLastOp_host_trace (s : State) (x : Opcode) : (s.setLastOp x).host.trace = s.host.trace := rfl
@[simp] theorem State.setLastOp_host_out (s : State) (x : Opcode) : (s.setLastOp x).host.out = s.host.out := rfl
@[simp] theorem State.setLastOp_du (s : State) (x : Opcode) : (s.setLastOp x).du = s.du := rfl
@[simp] theorem State.setLastOp_linkHD (s : State) (x : Opcode) : (s.setLastOp x).linkHD = s.linkHD := rfl
@[simp] theorem State.setLastOp_linkDH (s : State) (x : Opcode) : (s.setLastOp x).linkDH = s.linkDH := rfl
@[simp] theorem State.setLastOp_cfg (s : State) (x : Opcode) : (s.setLastOp x).cfg = s.cfg := rfl
@[simp] theorem State.setLastOp_env (s : State) (x : Opcode) : (s.setLastOp x).env = s.env := rfl

/-! `setRxBuf` -/
@[simp] theorem State.setRxBuf_du_fifo (s : State) (u : UnitId) (x : List Byte) : (s.setRxBuf u x).du.fifo = s.du.fifo := by cases u <;> rfl
@[simp] theorem State.setRxBuf_du_ch (s : State) (u : UnitId) (x : List Byte) : (s.setRxBuf u x).du.ch = s.du.ch := by cases u <;> rfl
@[simp] theorem State.setRxBuf_du_gsettle (s : State) (u : UnitId) (x : List Byte) : (s.setRxBuf u x).du.gsettle = s.du.gsettle := by cases u <;> rfl
@[simp] theorem State.setRxBuf_du_pulse (s : State) (u : UnitId) (x : List Byte) : (s.setRxBuf u x).du.pulse = s.du.pulse := by cases u <;> rfl
@[simp] theorem State.setRxBuf_du_modeFlag (s : State) (u : UnitId) (x : List Byte) : (s.setRxBuf u x).du.modeFlag = s.du.modeFlag := by cases u <;> rfl
@[simp] theorem State.setRxBuf_du_tickLastFire (s : State) (u : UnitId) (x : List Byte) : (s.setRxBuf u x).du.tickLastFire = s.du.tickLastFire := by cases u <;> rfl
@[simp] theorem State.setRxBuf_du_status (s : State) (u : UnitId) (x : List Byte) : (s.setRxBuf u x).du.status = s.du.status := by cases u <;> rfl
@[simp] theorem State.setRxBuf_du_run (s : State) (u : UnitId) (x : List Byte) : (s.setRxBuf u x).du.run = s.du.run := by cases u <;> rfl
@[simp] theorem State.setRxBuf_du_trace (s : State) (u : UnitId) (x : List Byte) : (s.setRxBuf u x).du.trace = s.du.trace := by cases u <;> rfl
@[simp] theorem State.setRxBuf_du_out (s : State) (u : UnitId) (x : List Byte) : (s.setRxBuf u x).du.out = s.du.out := by cases u <;> rfl
@[simp] theorem State.setRxBuf_host_grade (s : State) (u : UnitId) (x : List Byte) : (s.setRxBuf u x).host.grade = s.host.grade := by cases u <;> rfl
@[simp] theorem State.setRxBuf_host_phase (s : State) (u : UnitId) (x : List Byte) : (s.setRxBuf u x).host.phase = s.host.phase := by cases u <;> rfl
@[simp] theorem State.setRxBuf_host_mailbox (s : State) (u : UnitId) (x : List Byte) : (s.setRxBuf u x).host.mailbox = s.host.mailbox := by cases u <;> rfl
@[simp] theorem State.setRxBuf_host_idleStart (s : State) (u : UnitId) (x : List Byte) : (s.setRxBuf u x).host.idleStart = s.host.idleStart := by cases u <;> rfl
@[simp] theorem State.setRxBuf_host_status (s : State) (u : UnitId) (x : List Byte) : (s.setRxBuf u x).host.status = s.host.status := by cases u <;> rfl
@[simp] theorem State.setRxBuf_host_run (s : State) (u : UnitId) (x : List Byte) : (s.setRxBuf u x).host.run = s.host.run := by cases u <;> rfl
@[simp] theorem State.setRxBuf_host_lastOp (s : State) (u : UnitId) (x : List Byte) : (s.setRxBuf u x).host.lastOp = s.host.lastOp := by cases u <;> rfl
@[simp] theorem State.setRxBuf_host_trace (s : State) (u : UnitId) (x : List Byte) : (s.setRxBuf u x).host.trace = s.host.trace := by cases u <;> rfl
@[simp] theorem State.setRxBuf_host_out (s : State) (u : UnitId) (x : List Byte) : (s.setRxBuf u x).host.out = s.host.out := by cases u <;> rfl
@[simp] theorem State.setRxBuf_on_du_rxBuf (s : State) (x : List Byte) : (s.setRxBuf .du x).du.rxBuf = x := rfl
@[simp] theorem State.setRxBuf_on_host_rxBuf (s : State) (x : List Byte) : (s.setRxBuf .host x).host.rxBuf = x := rfl
@[simp] theorem State.setRxBuf_on_host_du (s : State) (x : List Byte) : (s.setRxBuf .host x).du = s.du := rfl
@[simp] theorem State.setRxBuf_on_du_host (s : State) (x : List Byte) : (s.setRxBuf .du x).host = s.host := rfl
@[simp] theorem State.setRxBuf_linkHD (s : State) (u : UnitId) (x : List Byte) : (s.setRxBuf u x).linkHD = s.linkHD := by cases u <;> rfl
@[simp] theorem State.setRxBuf_linkDH (s : State) (u : UnitId) (x : List Byte) : (s.setRxBuf u x).linkDH = s.linkDH := by cases u <;> rfl
@[simp] theorem State.setRxBuf_cfg (s : State) (u : UnitId) (x : List Byte) : (s.setRxBuf u x).cfg = s.cfg := by cases u <;> rfl
@[simp] theorem State.setRxBuf_env (s : State) (u : UnitId) (x : List Byte) : (s.setRxBuf u x).env = s.env := by cases u <;> rfl

/-! `orStatus` -/
@[simp] theorem State.orStatus_du_fifo (s : State) (u : UnitId) (m : BitVec 8) : (s.orStatus u m).du.fifo = s.du.fifo := by cases u <;> rfl
@[simp] theorem State.orStatus_du_ch (s : State) (u : UnitId) (m : BitVec 8) : (s.orStatus u m).du.ch = s.du.ch := by cases u <;> rfl
@[simp] theorem State.orStatus_du_gsettle (s : State) (u : UnitId) (m : BitVec 8) : (s.orStatus u m).du.gsettle = s.du.gsettle := by cases u <;> rfl
@[simp] theorem State.orStatus_du_pulse (s : State) (u : UnitId) (m : BitVec 8) : (s.orStatus u m).du.pulse = s.du.pulse := by cases u <;> rfl
@[simp] theorem State.orStatus_du_modeFlag (s : State) (u : UnitId) (m : BitVec 8) : (s.orStatus u m).du.modeFlag = s.du.modeFlag := by cases u <;> rfl
@[simp] theorem State.orStatus_du_tickLastFire (s : State) (u : UnitId) (m : BitVec 8) : (s.orStatus u m).du.tickLastFire = s.du.tickLastFire := by cases u <;> rfl
@[simp] theorem State.orStatus_du_rxBuf (s : State) (u : UnitId) (m : BitVec 8) : (s.orStatus u m).du.rxBuf = s.du.rxBuf := by cases u <;> rfl
@[simp] theorem State.orStatus_du_run (s : State) (u : UnitId) (m : BitVec 8) : (s.orStatus u m).du.run = s.du.run := by cases u <;> rfl
@[simp] theorem State.orStatus_du_trace (s : State) (u : UnitId) (m : BitVec 8) : (s.orStatus u m).du.trace = s.du.trace := by cases u <;> rfl
@[simp] theorem State.orStatus_du_out (s : State) (u : UnitId) (m : BitVec 8) : (s.orStatus u m).du.out = s.du.out := by cases u <;> rfl
@[simp] theorem State.orStatus_host_grade (s : State) (u : UnitId) (m : BitVec 8) : (s.orStatus u m).host.grade = s.host.grade := by cases u <;> rfl
@[simp] theorem State.orStatus_host_phase (s : State) (u : UnitId) (m : BitVec 8) : (s.orStatus u m).host.phase = s.host.phase := by cases u <;> rfl
@[simp] theorem State.orStatus_host_mailbox (s : State) (u : UnitId) (m : BitVec 8) : (s.orStatus u m).host.mailbox = s.host.mailbox := by cases u <;> rfl
@[simp] theorem State.orStatus_host_idleStart (s : State) (u : UnitId) (m : BitVec 8) : (s.orStatus u m).host.idleStart = s.host.idleStart := by cases u <;> rfl
@[simp] theorem State.orStatus_host_rxBuf (s : State) (u : UnitId) (m : BitVec 8) : (s.orStatus u m).host.rxBuf = s.host.rxBuf := by cases u <;> rfl
@[simp] theorem State.orStatus_host_run (s : State) (u : UnitId) (m : BitVec 8) : (s.orStatus u m).host.run = s.host.run := by cases u <;> rfl
@[simp] theorem State.orStatus_host_lastOp (s : State) (u : UnitId) (m : BitVec 8) : (s.orStatus u m).host.lastOp = s.host.lastOp := by cases u <;> rfl
@[simp] theorem State.orStatus_host_trace (s : State) (u : UnitId) (m : BitVec 8) : (s.orStatus u m).host.trace = s.host.trace := by cases u <;> rfl
@[simp] theorem State.orStatus_host_out (s : State) (u : UnitId) (m : BitVec 8) : (s.orStatus u m).host.out = s.host.out := by cases u <;> rfl
@[simp] theorem State.orStatus_on_du_status (s : State) (m : BitVec 8) : (s.orStatus .du m).du.status = s.du.status ||| m := rfl
@[simp] theorem State.orStatus_on_host_status (s : State) (m : BitVec 8) : (s.orStatus .host m).host.status = s.host.status ||| m := rfl
@[simp] theorem State.orStatus_on_host_du (s : State) (m : BitVec 8) : (s.orStatus .host m).du = s.du := rfl
@[simp] theorem State.orStatus_on_du_host (s : State) (m : BitVec 8) : (s.orStatus .du m).host = s.host := rfl
@[simp] theorem State.orStatus_linkHD (s : State) (u : UnitId) (m : BitVec 8) : (s.orStatus u m).linkHD = s.linkHD := by cases u <;> rfl
@[simp] theorem State.orStatus_linkDH (s : State) (u : UnitId) (m : BitVec 8) : (s.orStatus u m).linkDH = s.linkDH := by cases u <;> rfl
@[simp] theorem State.orStatus_cfg (s : State) (u : UnitId) (m : BitVec 8) : (s.orStatus u m).cfg = s.cfg := by cases u <;> rfl
@[simp] theorem State.orStatus_env (s : State) (u : UnitId) (m : BitVec 8) : (s.orStatus u m).env = s.env := by cases u <;> rfl

/-! `setRun` -/
@[simp] theorem State.setRun_du_fifo (s : State) (u : UnitId) (x : Run) : (s.setRun u x).du.fifo = s.du.fifo := by cases u <;> rfl
@[simp] theorem State.setRun_du_ch (s : State) (u : UnitId) (x : Run) : (s.setRun u x).du.ch = s.du.ch := by cases u <;> rfl
@[simp] theorem State.setRun_du_gsettle (s : State) (u : UnitId) (x : Run) : (s.setRun u x).du.gsettle = s.du.gsettle := by cases u <;> rfl
@[simp] theorem State.setRun_du_pulse (s : State) (u : UnitId) (x : Run) : (s.setRun u x).du.pulse = s.du.pulse := by cases u <;> rfl
@[simp] theorem State.setRun_du_modeFlag (s : State) (u : UnitId) (x : Run) : (s.setRun u x).du.modeFlag = s.du.modeFlag := by cases u <;> rfl
@[simp] theorem State.setRun_du_tickLastFire (s : State) (u : UnitId) (x : Run) : (s.setRun u x).du.tickLastFire = s.du.tickLastFire := by cases u <;> rfl
@[simp] theorem State.setRun_du_rxBuf (s : State) (u : UnitId) (x : Run) : (s.setRun u x).du.rxBuf = s.du.rxBuf := by cases u <;> rfl
@[simp] theorem State.setRun_du_status (s : State) (u : UnitId) (x : Run) : (s.setRun u x).du.status = s.du.status := by cases u <;> rfl
@[simp] theorem State.setRun_du_trace (s : State) (u : UnitId) (x : Run) : (s.setRun u x).du.trace = s.du.trace := by cases u <;> rfl
@[simp] theorem State.setRun_du_out (s : State) (u : UnitId) (x : Run) : (s.setRun u x).du.out = s.du.out := by cases u <;> rfl
@[simp] theorem State.setRun_host_grade (s : State) (u : UnitId) (x : Run) : (s.setRun u x).host.grade = s.host.grade := by cases u <;> rfl
@[simp] theorem State.setRun_host_phase (s : State) (u : UnitId) (x : Run) : (s.setRun u x).host.phase = s.host.phase := by cases u <;> rfl
@[simp] theorem State.setRun_host_mailbox (s : State) (u : UnitId) (x : Run) : (s.setRun u x).host.mailbox = s.host.mailbox := by cases u <;> rfl
@[simp] theorem State.setRun_host_idleStart (s : State) (u : UnitId) (x : Run) : (s.setRun u x).host.idleStart = s.host.idleStart := by cases u <;> rfl
@[simp] theorem State.setRun_host_rxBuf (s : State) (u : UnitId) (x : Run) : (s.setRun u x).host.rxBuf = s.host.rxBuf := by cases u <;> rfl
@[simp] theorem State.setRun_host_status (s : State) (u : UnitId) (x : Run) : (s.setRun u x).host.status = s.host.status := by cases u <;> rfl
@[simp] theorem State.setRun_host_lastOp (s : State) (u : UnitId) (x : Run) : (s.setRun u x).host.lastOp = s.host.lastOp := by cases u <;> rfl
@[simp] theorem State.setRun_host_trace (s : State) (u : UnitId) (x : Run) : (s.setRun u x).host.trace = s.host.trace := by cases u <;> rfl
@[simp] theorem State.setRun_host_out (s : State) (u : UnitId) (x : Run) : (s.setRun u x).host.out = s.host.out := by cases u <;> rfl
@[simp] theorem State.setRun_on_du_run (s : State) (x : Run) : (s.setRun .du x).du.run = x := rfl
@[simp] theorem State.setRun_on_host_run (s : State) (x : Run) : (s.setRun .host x).host.run = x := rfl
@[simp] theorem State.setRun_on_host_du (s : State) (x : Run) : (s.setRun .host x).du = s.du := rfl
@[simp] theorem State.setRun_on_du_host (s : State) (x : Run) : (s.setRun .du x).host = s.host := rfl
@[simp] theorem State.setRun_linkHD (s : State) (u : UnitId) (x : Run) : (s.setRun u x).linkHD = s.linkHD := by cases u <;> rfl
@[simp] theorem State.setRun_linkDH (s : State) (u : UnitId) (x : Run) : (s.setRun u x).linkDH = s.linkDH := by cases u <;> rfl
@[simp] theorem State.setRun_cfg (s : State) (u : UnitId) (x : Run) : (s.setRun u x).cfg = s.cfg := by cases u <;> rfl
@[simp] theorem State.setRun_env (s : State) (u : UnitId) (x : Run) : (s.setRun u x).env = s.env := by cases u <;> rfl

/-! `setOut` -/
@[simp] theorem State.setOut_du_fifo (s : State) (u : UnitId) (x : Results) : (s.setOut u x).du.fifo = s.du.fifo := by cases u <;> rfl
@[simp] theorem State.setOut_du_ch (s : State) (u : UnitId) (x : Results) : (s.setOut u x).du.ch = s.du.ch := by cases u <;> rfl
@[simp] theorem State.setOut_du_gsettle (s : State) (u : UnitId) (x : Results) : (s.setOut u x).du.gsettle = s.du.gsettle := by cases u <;> rfl
@[simp] theorem State.setOut_du_pulse (s : State) (u : UnitId) (x : Results) : (s.setOut u x).du.pulse = s.du.pulse := by cases u <;> rfl
@[simp] theorem State.setOut_du_modeFlag (s : State) (u : UnitId) (x : Results) : (s.setOut u x).du.modeFlag = s.du.modeFlag := by cases u <;> rfl
@[simp] theorem State.setOut_du_tickLastFire (s : State) (u : UnitId) (x : Results) : (s.setOut u x).du.tickLastFire = s.du.tickLastFire := by cases u <;> rfl
@[simp] theorem State.setOut_du_rxBuf (s : State) (u : UnitId) (x : Results) : (s.setOut u x).du.rxBuf = s.du.rxBuf := by cases u <;> rfl
@[simp] theorem State.setOut_du_status (s : State) (u : UnitId) (x : Results) : (s.setOut u x).du.status = s.du.status := by cases u <;> rfl
@[simp] theorem State.setOut_du_run (s : State) (u : UnitId) (x : Results) : (s.setOut u x).du.run = s.du.run := by cases u <;> rfl
@[simp] theorem State.setOut_du_trace (s : State) (u : UnitId) (x : Results) : (s.setOut u x).du.trace = s.du.trace := by cases u <;> rfl
@[simp] theorem State.setOut_host_grade (s : State) (u : UnitId) (x : Results) : (s.setOut u x).host.grade = s.host.grade := by cases u <;> rfl
@[simp] theorem State.setOut_host_phase (s : State) (u : UnitId) (x : Results) : (s.setOut u x).host.phase = s.host.phase := by cases u <;> rfl
@[simp] theorem State.setOut_host_mailbox (s : State) (u : UnitId) (x : Results) : (s.setOut u x).host.mailbox = s.host.mailbox := by cases u <;> rfl
@[simp] theorem State.setOut_host_idleStart (s : State) (u : UnitId) (x : Results) : (s.setOut u x).host.idleStart = s.host.idleStart := by cases u <;> rfl
@[simp] theorem State.setOut_host_rxBuf (s : State) (u : UnitId) (x : Results) : (s.setOut u x).host.rxBuf = s.host.rxBuf := by cases u <;> rfl
@[simp] theorem State.setOut_host_status (s : State) (u : UnitId) (x : Results) : (s.setOut u x).host.status = s.host.status := by cases u <;> rfl
@[simp] theorem State.setOut_host_run (s : State) (u : UnitId) (x : Results) : (s.setOut u x).host.run = s.host.run := by cases u <;> rfl
@[simp] theorem State.setOut_host_lastOp (s : State) (u : UnitId) (x : Results) : (s.setOut u x).host.lastOp = s.host.lastOp := by cases u <;> rfl
@[simp] theorem State.setOut_host_trace (s : State) (u : UnitId) (x : Results) : (s.setOut u x).host.trace = s.host.trace := by cases u <;> rfl
@[simp] theorem State.setOut_on_du_out (s : State) (x : Results) : (s.setOut .du x).du.out = x := rfl
@[simp] theorem State.setOut_on_host_out (s : State) (x : Results) : (s.setOut .host x).host.out = x := rfl
@[simp] theorem State.setOut_on_host_du (s : State) (x : Results) : (s.setOut .host x).du = s.du := rfl
@[simp] theorem State.setOut_on_du_host (s : State) (x : Results) : (s.setOut .du x).host = s.host := rfl
@[simp] theorem State.setOut_linkHD (s : State) (u : UnitId) (x : Results) : (s.setOut u x).linkHD = s.linkHD := by cases u <;> rfl
@[simp] theorem State.setOut_linkDH (s : State) (u : UnitId) (x : Results) : (s.setOut u x).linkDH = s.linkDH := by cases u <;> rfl
@[simp] theorem State.setOut_cfg (s : State) (u : UnitId) (x : Results) : (s.setOut u x).cfg = s.cfg := by cases u <;> rfl
@[simp] theorem State.setOut_env (s : State) (u : UnitId) (x : Results) : (s.setOut u x).env = s.env := by cases u <;> rfl

/-! `emit` -/
@[simp] theorem State.emit_du_fifo (s : State) (u : UnitId) (e : Event) : (s.emit u e).du.fifo = s.du.fifo := by cases u <;> rfl
@[simp] theorem State.emit_du_ch (s : State) (u : UnitId) (e : Event) : (s.emit u e).du.ch = s.du.ch := by cases u <;> rfl
@[simp] theorem State.emit_du_gsettle (s : State) (u : UnitId) (e : Event) : (s.emit u e).du.gsettle = s.du.gsettle := by cases u <;> rfl
@[simp] theorem State.emit_du_pulse (s : State) (u : UnitId) (e : Event) : (s.emit u e).du.pulse = s.du.pulse := by cases u <;> rfl
@[simp] theorem State.emit_du_modeFlag (s : State) (u : UnitId) (e : Event) : (s.emit u e).du.modeFlag = s.du.modeFlag := by cases u <;> rfl
@[simp] theorem State.emit_du_tickLastFire (s : State) (u : UnitId) (e : Event) : (s.emit u e).du.tickLastFire = s.du.tickLastFire := by cases u <;> rfl
@[simp] theorem State.emit_du_rxBuf (s : State) (u : UnitId) (e : Event) : (s.emit u e).du.rxBuf = s.du.rxBuf := by cases u <;> rfl
@[simp] theorem State.emit_du_status (s : State) (u : UnitId) (e : Event) : (s.emit u e).du.status = s.du.status := by cases u <;> rfl
@[simp] theorem State.emit_du_run (s : State) (u : UnitId) (e : Event) : (s.emit u e).du.run = s.du.run := by cases u <;> rfl
@[simp] theorem State.emit_du_out (s : State) (u : UnitId) (e : Event) : (s.emit u e).du.out = s.du.out := by cases u <;> rfl
@[simp] theorem State.emit_host_grade (s : State) (u : UnitId) (e : Event) : (s.emit u e).host.grade = s.host.grade := by cases u <;> rfl
@[simp] theorem State.emit_host_phase (s : State) (u : UnitId) (e : Event) : (s.emit u e).host.phase = s.host.phase := by cases u <;> rfl
@[simp] theorem State.emit_host_mailbox (s : State) (u : UnitId) (e : Event) : (s.emit u e).host.mailbox = s.host.mailbox := by cases u <;> rfl
@[simp] theorem State.emit_host_idleStart (s : State) (u : UnitId) (e : Event) : (s.emit u e).host.idleStart = s.host.idleStart := by cases u <;> rfl
@[simp] theorem State.emit_host_rxBuf (s : State) (u : UnitId) (e : Event) : (s.emit u e).host.rxBuf = s.host.rxBuf := by cases u <;> rfl
@[simp] theorem State.emit_host_status (s : State) (u : UnitId) (e : Event) : (s.emit u e).host.status = s.host.status := by cases u <;> rfl
@[simp] theorem State.emit_host_run (s : State) (u : UnitId) (e : Event) : (s.emit u e).host.run = s.host.run := by cases u <;> rfl
@[simp] theorem State.emit_host_lastOp (s : State) (u : UnitId) (e : Event) : (s.emit u e).host.lastOp = s.host.lastOp := by cases u <;> rfl
@[simp] theorem State.emit_host_out (s : State) (u : UnitId) (e : Event) : (s.emit u e).host.out = s.host.out := by cases u <;> rfl
@[simp] theorem State.emit_on_du_trace (s : State) (e : Event) : (s.emit .du e).du.trace = s.du.trace ++ [e] := rfl
@[simp] theorem State.emit_on_host_trace (s : State) (e : Event) : (s.emit .host e).host.trace = s.host.trace ++ [e] := rfl
@[simp] theorem State.emit_on_host_du (s : State) (e : Event) : (s.emit .host e).du = s.du := rfl
@[simp] theorem State.emit_on_du_host (s : State) (e : Event) : (s.emit .du e).host = s.host := rfl
@[simp] theorem State.emit_linkHD (s : State) (u : UnitId) (e : Event) : (s.emit u e).linkHD = s.linkHD := by cases u <;> rfl
@[simp] theorem State.emit_linkDH (s : State) (u : UnitId) (e : Event) : (s.emit u e).linkDH = s.linkDH := by cases u <;> rfl
@[simp] theorem State.emit_cfg (s : State) (u : UnitId) (e : Event) : (s.emit u e).cfg = s.cfg := by cases u <;> rfl
@[simp] theorem State.emit_env (s : State) (u : UnitId) (e : Event) : (s.emit u e).env = s.env := by cases u <;> rfl

/-! `setLink` -/
@[simp] theorem State.setLink_du (s : State) (l : Link) (x : List Byte) : (s.setLink l x).du = s.du := by cases l <;> rfl
@[simp] theorem State.setLink_host (s : State) (l : Link) (x : List Byte) : (s.setLink l x).host = s.host := by cases l <;> rfl
@[simp] theorem State.setLink_cfg (s : State) (l : Link) (x : List Byte) : (s.setLink l x).cfg = s.cfg := by cases l <;> rfl
@[simp] theorem State.setLink_env (s : State) (l : Link) (x : List Byte) : (s.setLink l x).env = s.env := by cases l <;> rfl
@[simp] theorem State.setLink_hd_linkHD (s : State) (x : List Byte) : (s.setLink .hd x).linkHD = x := rfl
@[simp] theorem State.setLink_hd_linkDH (s : State) (x : List Byte) : (s.setLink .hd x).linkDH = s.linkDH := rfl
@[simp] theorem State.setLink_dh_linkDH (s : State) (x : List Byte) : (s.setLink .dh x).linkDH = x := rfl
@[simp] theorem State.setLink_dh_linkHD (s : State) (x : List Byte) : (s.setLink .dh x).linkHD = s.linkHD := rfl

/-! `setEnv` -/
@[simp] theorem State.setEnv_du (s : State) (x : EnvState) : (s.setEnv x).du = s.du := rfl
@[simp] theorem State.setEnv_host (s : State) (x : EnvState) : (s.setEnv x).host = s.host := rfl
@[simp] theorem State.setEnv_linkHD (s : State) (x : EnvState) : (s.setEnv x).linkHD = s.linkHD := rfl
@[simp] theorem State.setEnv_linkDH (s : State) (x : EnvState) : (s.setEnv x).linkDH = s.linkDH := rfl
@[simp] theorem State.setEnv_cfg (s : State) (x : EnvState) : (s.setEnv x).cfg = s.cfg := rfl
@[simp] theorem State.setEnv_env (s : State) (x : EnvState) : (s.setEnv x).env = x := rfl

/-! The accessors that take a unit or a link. -/
@[simp] theorem State.runOf_du (s : State) : s.runOf .du = s.du.run := rfl
@[simp] theorem State.rxBufOf_du (s : State) : s.rxBufOf .du = s.du.rxBuf := rfl
@[simp] theorem State.outOf_du (s : State) : s.outOf .du = s.du.out := rfl
@[simp] theorem State.runOf_host (s : State) : s.runOf .host = s.host.run := rfl
@[simp] theorem State.rxBufOf_host (s : State) : s.rxBufOf .host = s.host.rxBuf := rfl
@[simp] theorem State.outOf_host (s : State) : s.outOf .host = s.host.out := rfl
@[simp] theorem State.linkOf_hd (s : State) : s.linkOf .hd = s.linkHD := rfl
@[simp] theorem State.linkOf_dh (s : State) : s.linkOf .dh = s.linkDH := rfl

/-! One value for each channel. -/
@[simp] theorem ByChannel.get_set_self {α : Type} (x : ByChannel α) (i : Channel) (v : α) : (x.set i v).get i = v := by
  cases i <;> rfl
@[simp] theorem ByChannel.get_set_of_ne {α : Type} (x : ByChannel α) {i j : Channel} (v : α) (h : j ≠ i) :
    (x.set i v).get j = x.get j := by
  cases i <;> cases j <;> first | rfl | exact absurd rfl h
@[simp] theorem ByChannel.set_set {α : Type} (x : ByChannel α) (i : Channel) (v w : α) : (x.set i v).set i w = x.set i w := by
  cases i <;> rfl
@[simp] theorem ByChannel.set_get {α : Type} (x : ByChannel α) (i : Channel) : x.set i (x.get i) = x := by
  cases i <;> rfl

end Sys2Proof.Machine
end

