-- ==== Sys2Proof/Laws/Ops.lean ====
section
/-!
SUPPORT. For each shared operation one lemma that says everything it can do, to be cited in place of unfolding it.
-/

namespace Sys2Proof.Machine

/-! Units, errors and the environment's answers. -/

theorem whenRunning_of_running {u : UnitId} {s : State} (f : State → State) (h : s.runOf u = .running) :
    whenRunning u f s = f s := by simp [whenRunning, h]

theorem whenRunning_of_fatal {u : UnitId} {s : State} (f : State → State) (h : s.runOf u = .fatal) :
    whenRunning u f s = s := by simp [whenRunning, h]

theorem whenRunning_cases (u : UnitId) (f : State → State) (s : State) :
    (s.runOf u = .running ∧ whenRunning u f s = f s) ∨ (s.runOf u = .fatal ∧ whenRunning u f s = s) := by
  cases h : s.runOf u <;> simp [whenRunning, h]

theorem raiseError_du_eq {k : ErrorKind} (s : State) (h : k ≠ .initFailure) :
    raiseError .du k s =
      { s with du := { s.du with status := s.du.status ||| errorBit .du k, trace := s.du.trace ++ [.error k] } } := by
  simp [raiseError, h, State.orStatus, State.emit]

theorem raiseError_host_eq {k : ErrorKind} (s : State) (h : k ≠ .initFailure) :
    raiseError .host k s =
      { s with host := { s.host with
          status := s.host.status ||| errorBit .host k, trace := s.host.trace ++ [.error k] } } := by
  simp [raiseError, h, State.orStatus, State.emit]

theorem raiseError_init_du_eq (s : State) :
    raiseError .du .initFailure s =
      { s with du := { s.du with run := .fatal, trace := s.du.trace ++ [.error .initFailure] } } := by
  simp [raiseError, State.orStatus, State.emit, State.setRun, errorBit]

theorem raiseError_init_host_eq (s : State) :
    raiseError .host .initFailure s =
      { s with host := { s.host with run := .fatal, trace := s.host.trace ++ [.error .initFailure] } } := by
  simp [raiseError, State.orStatus, State.emit, State.setRun, errorBit]

@[simp] theorem takeAnswer_du (s : State) : (takeAnswer s).du = s.du := by unfold takeAnswer; split <;> rfl
@[simp] theorem takeAnswer_host (s : State) : (takeAnswer s).host = s.host := by unfold takeAnswer; split <;> rfl
@[simp] theorem takeAnswer_linkHD (s : State) : (takeAnswer s).linkHD = s.linkHD := by unfold takeAnswer; split <;> rfl
@[simp] theorem takeAnswer_linkDH (s : State) : (takeAnswer s).linkDH = s.linkDH := by unfold takeAnswer; split <;> rfl
@[simp] theorem takeAnswer_cfg (s : State) : (takeAnswer s).cfg = s.cfg := by unfold takeAnswer; split <;> rfl
@[simp] theorem takeAnswer_schedule (s : State) : (takeAnswer s).env.schedule = s.env.schedule := by
  unfold takeAnswer; split <;> rfl

theorem takeAnswer_env_congr {s t : State} (h : s.env = t.env) : (takeAnswer s).env = (takeAnswer t).env := by
  unfold takeAnswer
  rw [h]
  split <;> rfl

theorem nextAnswer_congr {s t : State} (h : s.env = t.env) : nextAnswer s = nextAnswer t := by
  unfold nextAnswer
  rw [h]

/-! The transport. -/

theorem txWrite_du_ok {s : State} (b : List Byte) (h : nextAnswer s = .ok) :
    txWrite .du b s =
      { s with
        du := { s.du with trace := s.du.trace ++ [.tx b] }
        linkDH := s.linkDH ++ b
        env := (takeAnswer s).env } := by
  have e := takeAnswer_env_congr (s := s.emit .du (.tx b)) (t := s) rfl
  simp only [txWrite, h, outgoing, State.setLink, State.linkOf, takeAnswer_linkDH]
  rw [e]
  simp [State.emit]

theorem txWrite_host_ok {s : State} (b : List Byte) (h : nextAnswer s = .ok) :
    txWrite .host b s =
      { s with
        host := { s.host with trace := s.host.trace ++ [.tx b] }
        linkHD := s.linkHD ++ b
        env := (takeAnswer s).env } := by
  have e := takeAnswer_env_congr (s := s.emit .host (.tx b)) (t := s) rfl
  simp only [txWrite, h, outgoing, State.setLink, State.linkOf, takeAnswer_linkHD]
  rw [e]
  simp [State.emit]

theorem txWrite_du_failed {s : State} {n : Nat} (b : List Byte) (h : nextAnswer s = .failed n) :
    txWrite .du b s =
      { s with
        du := { s.du with
          status := s.du.status ||| DU_TXF
          trace := s.du.trace ++ [.tx b, .error .transportWriteFailure] }
        linkDH := s.linkDH ++ b.take (sentBytes n b.length)
        env := (takeAnswer s).env } := by
  have e := takeAnswer_env_congr (s := s.emit .du (.tx b)) (t := s) rfl
  simp only [txWrite, h, outgoing, State.setLink, State.linkOf, takeAnswer_linkDH]
  rw [raiseError_du_eq _ (by simp), e]
  simp [State.emit, errorBit]

theorem txWrite_host_failed {s : State} {n : Nat} (b : List Byte) (h : nextAnswer s = .failed n) :
    txWrite .host b s =
      { s with
        host := { s.host with
          status := s.host.status ||| HOST_TXF
          trace := s.host.trace ++ [.tx b, .error .transportWriteFailure] }
        linkHD := s.linkHD ++ b.take (sentBytes n b.length)
        env := (takeAnswer s).env } := by
  have e := takeAnswer_env_congr (s := s.emit .host (.tx b)) (t := s) rfl
  simp only [txWrite, h, outgoing, State.setLink, State.linkOf, takeAnswer_linkHD]
  rw [raiseError_host_eq _ (by simp), e]
  simp [State.emit, errorBit]

theorem rxDrain_du_eq (s : State) : ∃ rest, rxDrain .du s = { s with du := { s.du with rxBuf := rest } } := by
  unfold rxDrain
  split
  · exact ⟨_, rfl⟩
  · exact ⟨s.du.rxBuf, rfl⟩

theorem rxDrain_host_eq (s : State) : ∃ rest, rxDrain .host s = { s with host := { s.host with rxBuf := rest } } := by
  unfold rxDrain
  split
  · exact ⟨_, rfl⟩
  · exact ⟨s.host.rxBuf, rfl⟩

theorem linkStep_cases (l : Link) (noise : Option Byte) (s : State) :
    linkStep l noise s = s ∨
      ∃ b q, s.runOf (receiver l) = .running ∧ s.linkOf l = b :: q ∧
        linkStep l noise s =
          (s.setLink l q).setRxBuf (receiver l) (s.rxBufOf (receiver l) ++ [deliveredByte s b noise]) := by
  unfold linkStep
  split
  next b q h₁ h₂ => exact .inr ⟨b, q, h₁, h₂, rfl⟩
  next => exact .inl rfl

/-! The FIFO and RX_FRAME. -/

theorem pushBack_cases (g : Grid) (s : State) :
    (hasRoom s = true ∧ pushBack g s = { s with du := { s.du with fifo := s.du.fifo ++ [g] } }) ∨
    (hasRoom s = false ∧ pushBack g s =
      { s with du := { s.du with
          status := s.du.status ||| DU_OVF, trace := s.du.trace ++ [.error (.fifoOverflow .back)] } }) := by
  unfold pushBack
  cases h : hasRoom s
  · exact .inr ⟨rfl, by simp [raiseError_du_eq, errorBit]⟩
  · exact .inl ⟨rfl, rfl⟩

theorem pushFront_cases (g : Grid) (s : State) :
    (hasRoom s = true ∧ pushFront g s = { s with du := { s.du with fifo := g :: s.du.fifo } }) ∨
    (hasRoom s = false ∧ pushFront g s =
      { s with du := { s.du with
          fifo := g :: keptAtFront s
          status := s.du.status ||| DU_OVF
          trace := s.du.trace ++ [.error (.fifoOverflow .front)] } }) := by
  unfold pushFront
  cases h : hasRoom s
  · exact .inr ⟨rfl, by simp [raiseError_du_eq, errorBit, State.setFifo]⟩
  · exact .inl ⟨rfl, rfl⟩

theorem advance_cases (c : Bool) (s : State) :
    (c = false ∧ advance c s = s) ∨
    (c = true ∧ advance c s = { s with du := { s.du with fifo := s.du.fifo.drop 1 } }) := by
  cases c
  · exact .inl ⟨rfl, rfl⟩
  · exact .inr ⟨rfl, rfl⟩

theorem rxFrame_cases (l : Line) (s : State) :
    (∃ r, decodeFrame l = .error r ∧ rxFrame l s =
      { s with du := { s.du with
          status := s.du.status ||| DU_MALF
          trace := s.du.trace ++ [.logMalformed l, .error .malformedFrame] } }) ∨
    (∃ g, decodeFrame l = .ok (true, g) ∧ rxFrame l s = pushFront g (s.emit .du .buzz)) ∨
    (∃ g, decodeFrame l = .ok (false, g) ∧ rxFrame l s = pushBack g s) := by
  unfold rxFrame
  split
  next r h => exact .inl ⟨r, h, by simp [raiseError_du_eq, errorBit, State.emit]⟩
  next g h => exact .inr (.inl ⟨g, h, rfl⟩)
  next g h => exact .inr (.inr ⟨g, h, rfl⟩)

/-! Debounce and tick. -/

theorem windowOpen_iff (i : Channel) (t : Time) (s : State) :
    windowOpen i t s = true ↔
      (s.cfg.settleScope = .perChannel ∧ (s.du.ch.get i).settling = true ∧
        elapsed s.cfg t (s.du.ch.get i).settleStart < s.cfg.settleTime) ∨
      (s.cfg.settleScope = .global ∧ s.du.gsettle.active = true ∧
        elapsed s.cfg t s.du.gsettle.start < s.cfg.settleTime) := by
  unfold windowOpen
  cases h : s.cfg.settleScope <;> simp

theorem pollChannel_of_open {i : Channel} {t : Time} {s : State} (p : Bool) (h : windowOpen i t s = true) :
    pollChannel i p t s = s.setPulse i false := by simp [pollChannel, h]

theorem pollChannel_of_closed {i : Channel} {t : Time} {s : State} (p : Bool) (h : windowOpen i t s = false) :
    pollChannel i p t s =
      match (s.du.ch.get i).phase, p with
      | .released, false => pressed i t (setRaw i false (closeWindow i (s.setPulse i false)))
      | .pressed, true => setPhase i .released (setRaw i true (closeWindow i (s.setPulse i false)))
      | .released, true => setRaw i true (closeWindow i (s.setPulse i false))
      | .pressed, false => setRaw i false (closeWindow i (s.setPulse i false)) := by
  simp only [pollChannel, h]
  cases (s.du.ch.get i).phase <;> cases p <;> rfl

theorem tickCheck_cases (t : Time) (s : State) :
    (s.cfg.tickInterval ≤ elapsed s.cfg t s.du.tickLastFire ∧
      tickCheck t s = { s with du := { s.du with tickLastFire := t } }) ∨
    (elapsed s.cfg t s.du.tickLastFire < s.cfg.tickInterval ∧ tickCheck t s = s) := by
  by_cases h : s.cfg.tickInterval ≤ elapsed s.cfg t s.du.tickLastFire
  · exact .inl ⟨h, by simp [tickCheck, tickFires, h, State.setTickLastFire]⟩
  · exact .inr ⟨by omega, by simp [tickCheck, tickFires, h]⟩

/-! The host. -/

theorem idleCheck_cases (t : Time) (s : State) :
    (s.cfg.idleRecalInterval ≤ elapsed s.cfg t s.host.idleStart ∧
      idleCheck t s =
        { s with host := { s.host with idleStart := t, trace := s.host.trace ++ [.recalRequest] } }) ∨
    (elapsed s.cfg t s.host.idleStart < s.cfg.idleRecalInterval ∧ idleCheck t s = s) := by
  by_cases h : s.cfg.idleRecalInterval ≤ elapsed s.cfg t s.host.idleStart
  · exact .inl ⟨h, by simp [idleCheck, recalDue, h, State.emit, State.setIdleStart]⟩
  · exact .inr ⟨by omega, by simp [idleCheck, recalDue, h]⟩

theorem sendAlert_cases (s : State) :
    (s.host.mailbox.pending = false ∧ sendAlert s = alertTake s) ∨
    (s.host.mailbox.pending = true ∧
      sendAlert s = txWrite .host (alertFrame s s.host.mailbox.label) (alertTake s)) := by
  cases h : s.host.mailbox.pending
  · exact .inl ⟨rfl, by simp [sendAlert, pendingAlert, h]⟩
  · exact .inr ⟨rfl, by simp [sendAlert, pendingAlert, h]⟩

theorem whenPolling_cases (f : State → State) (s : State) :
    (s.host.phase = .polling ∧ whenPolling f s = f s) ∨
    (s.host.phase = .capture ∧ whenPolling f s =
      { s with host := { s.host with
          status := s.host.status ||| HOST_ILL, trace := s.host.trace ++ [.error .illegalCommand] } }) := by
  unfold whenPolling
  cases h : s.host.phase
  · exact .inl ⟨rfl, rfl⟩
  · exact .inr ⟨rfl, by simp [raiseError_host_eq, errorBit]⟩

theorem whenPolling_of_polling {s : State} (f : State → State) (h : s.host.phase = .polling) :
    whenPolling f s = f s := by simp [whenPolling, h]

/-! The label port. -/

theorem labelIn_cases (s : State) (lab : Label) :
    (∃ n, s.cfg.labels = .upTo n ∧ s.labelIn lab = ⟨lab.index % (n + 1)⟩) ∨
    (s.cfg.labels = .countable ∧ s.labelIn lab = lab) := by
  unfold State.labelIn
  cases h : s.cfg.labels
  · exact .inl ⟨_, rfl, rfl⟩
  · exact .inr ⟨rfl, rfl⟩

/-! Turns. -/

@[simp] theorem takeTurn_du (s : State) : (takeTurn s).du = s.du := by unfold takeTurn; split <;> rfl
@[simp] theorem takeTurn_host (s : State) : (takeTurn s).host = s.host := by unfold takeTurn; split <;> rfl
@[simp] theorem takeTurn_linkHD (s : State) : (takeTurn s).linkHD = s.linkHD := by unfold takeTurn; split <;> rfl
@[simp] theorem takeTurn_linkDH (s : State) : (takeTurn s).linkDH = s.linkDH := by unfold takeTurn; split <;> rfl
@[simp] theorem takeTurn_cfg (s : State) : (takeTurn s).cfg = s.cfg := by unfold takeTurn; split <;> rfl

theorem actOnReject_cases (p : Presented) (s : State) :
    (∃ u cw d, p = .command u cw d ∧ actOnReject p s = whenRunning u (raiseError u .illegalCommand) s) ∨
    (∃ op d, p = .opcode op d ∧ actOnReject p s = s) ∨
    (∃ l d, p = .line .du l d ∧ actOnReject p s = whenRunning .du (rxFrame l) s) ∨
    (∃ l d, p = .line .host l d ∧
      actOnReject p s = whenRunning .host (fun s => pollOneLine l (s.clock d.now) s) s) := by
  cases p with
  | command u cw d => exact .inl ⟨u, cw, d, rfl, rfl⟩
  | opcode op d => exact .inr (.inl ⟨op, d, rfl, rfl⟩)
  | line u l d =>
    cases u with
    | du => exact .inr (.inr (.inl ⟨l, d, rfl, rfl⟩))
    | host => exact .inr (.inr (.inr ⟨l, d, rfl, rfl⟩))

end Sys2Proof.Machine
end

