-- ==== Sys2Proof/Laws/Wire.lean ====
section
/-!
SUPPORT. The small lemmas of the wire formats: lengths of payloads and frames, and what the tests on characters say.
-/

namespace Sys2Proof.Machine

@[simp] theorem isBitChar_chr (b : Bool) : isBitChar (chr b) = true := by cases b <;> rfl

@[simp] theorem bitOfChr_chr (b : Bool) : bitOfChr (chr b) = b := by cases b <;> rfl

theorem chr_ne_LF (b : Bool) : chr b ≠ LF := by cases b <;> decide

@[simp] theorem SentCell.bits_length (t : SentCell) : t.bits.length = 6 := rfl

theorem flatMap_bits_length (cs : List Cell) : (cs.flatMap fun c => (reorder c).bits).length = 6 * cs.length := by
  induction cs with
  | nil => rfl
  | cons c cs ih =>
    simp only [List.flatMap_cons, List.length_append, SentCell.bits_length, ih, List.length_cons]
    omega

@[simp] theorem payload_length (g : Grid) : (payload g).length = 72 := by
  rw [payload, flatMap_bits_length, g.length_eq]

@[simp] theorem frameLine_length (h : Bool) (g : Grid) : (frameLine h g).length = 73 := by simp [frameLine]

@[simp] theorem frameBytes_length (h : Bool) (g : Grid) : (frameBytes h g).length = 74 := by simp [frameBytes]

end Sys2Proof.Machine
end

