-- ==== Sys2Proof/Laws/PerInstr.lean ====
section
/-!
SUPPORT. One family of lemmas with one lemma for each constructor of Instr: the encoding of a well-formed instruction has the
fixed bits (or characters) of its row of spec/opcode_table.json.
-/

namespace Sys2Proof.Laws.EncodesItsRow

open Sys2Proof.Machine

/-- A row of spec/opcode_table.json: mask and match of a command word, the opcode's bits, a frame's header character, or a
control line's text. -/
inductive Row where
  | command (mask pattern : BitVec 16)
  | opcode (code : BitVec 2)
  | frame (header : Byte)
  | line (text : Line)

/-- The row an instruction stands for. -/
def row : Instr → Row
  | .nop _ => .command 0xFFFF#16 0x0000#16
  | .encode _ _ _ => .command 0xFF7F#16 0x1000#16
  | .normalize _ _ => .command 0xFFFF#16 0x2000#16
  | .decode _ _ => .command 0xFFFF#16 0x3000#16
  | .pushBack _ => .command 0xFFFF#16 0x4000#16
  | .pushFront _ => .command 0xFFFF#16 0x5000#16
  | .peek => .command 0xFFFF#16 0x6000#16
  | .advance _ => .command 0xFEFF#16 0x7000#16
  | .poll _ _ _ => .command 0xF1FF#16 0x8000#16
  | .tickCheck _ => .command 0xFFFF#16 0x9000#16
  | .alertPost _ => .command 0xFFFF#16 0xA000#16
  | .hostPoll _ => .command 0xFFFF#16 0xB000#16
  | .captureDone _ _ _ => .command 0xFFBF#16 0xC000#16
  | .duPoll _ _ => .command 0xFFFF#16 0xD000#16
  | .rxFrame _ => .command 0xFFFF#16 0xE000#16
  | .reset _ _ _ => .command 0xFFFF#16 0xF000#16
  | .opIdle _ => .opcode 0#2
  | .opSend _ => .opcode 1#2
  | .opGrade2 _ => .opcode 2#2
  | .opGrade1 _ => .opcode 3#2
  | .frameOrdinary _ => .frame 0x30#8
  | .frameAlert _ => .frame 0x31#8
  | .ctrlSend _ => .line [0x53#8, 0x45#8, 0x4E#8, 0x44#8]
  | .ctrlTrue _ => .line [0x54#8, 0x72#8, 0x75#8, 0x65#8]
  | .ctrlFalse _ => .line [0x46#8, 0x61#8, 0x6C#8, 0x73#8, 0x65#8]

/-- What stands at the port has the row's fixed bits or characters. -/
def Fits : Row → Presented → Prop
  | .command mask pattern, .command _ cw _ => cw &&& mask = pattern
  | .opcode code, .opcode op _ => op = code
  | .frame header, .line .du l _ => l.length = 73 ∧ l.head? = some header
  | .line text, .line .host l _ => l = text
  | _, _ => False

/-- A well-formed instruction's encoding has its row's fixed bits. -/
def Statement (i : Instr) : Prop := i.wellFormed = true → Fits (row i) (encode i)

theorem nop (u : UnitId) : Statement (.nop u) := fun _ => rfl
theorem encode (u : UnitId) (h : Bool) (g : Grid) : Statement (.encode u h g) := fun _ => by
  cases h <;> rfl
theorem normalize (u : UnitId) (s : List Cell) : Statement (.normalize u s) := fun _ => rfl
theorem decode (u : UnitId) (l : Line) : Statement (.decode u l) := fun _ => rfl
theorem pushBack (g : Grid) : Statement (.pushBack g) := fun _ => rfl
theorem pushFront (g : Grid) : Statement (.pushFront g) := fun _ => rfl
theorem peek : Statement .peek := fun _ => rfl
theorem advance (c : Bool) : Statement (.advance c) := fun _ => by
  cases c <;> rfl
theorem poll (ch : BitVec 2) (p : Bool) (now : Time) : Statement (.poll ch p now) := fun _ => by
  have fixed_bits : ∀ (ch : BitVec 2) (p : Bool),
      (0x8000#16 ||| ch.setWidth 16 <<< 10 ||| bitField 9 p) &&& 0xF1FF#16 = 0x8000#16 := by decide
  exact fixed_bits ch p
theorem tickCheck (now : Time) : Statement (.tickCheck now) := fun _ => rfl
theorem alertPost (lab : Label) : Statement (.alertPost lab) := fun _ => rfl
theorem hostPoll (now : Time) : Statement (.hostPoll now) := fun _ => rfl
theorem captureDone (e : Bool) (s : List Cell) (now : Time) : Statement (.captureDone e s now) := fun _ => by
  cases e <;> rfl
theorem duPoll (now : Time) (pins : BitVec 3) : Statement (.duPoll now pins) := fun _ => rfl
theorem rxFrame (l : Line) : Statement (.rxFrame l) := fun _ => rfl
theorem reset (u : UnitId) (now : Time) (ok : Bool) : Statement (.reset u now ok) := fun _ => rfl
theorem opIdle (now : Time) : Statement (.opIdle now) := fun _ => rfl
theorem opSend (now : Time) : Statement (.opSend now) := fun _ => rfl
theorem opGrade2 (now : Time) : Statement (.opGrade2 now) := fun _ => rfl
theorem opGrade1 (now : Time) : Statement (.opGrade1 now) := fun _ => rfl
theorem frameOrdinary (g : Grid) : Statement (.frameOrdinary g) := fun _ => ⟨frameLine_length false g, rfl⟩
theorem frameAlert (g : Grid) : Statement (.frameAlert g) := fun _ => ⟨frameLine_length true g, rfl⟩
theorem ctrlSend (now : Time) : Statement (.ctrlSend now) := fun _ => rfl
theorem ctrlTrue (now : Time) : Statement (.ctrlTrue now) := fun _ => rfl
theorem ctrlFalse (now : Time) : Statement (.ctrlFalse now) := fun _ => rfl

end Sys2Proof.Laws.EncodesItsRow
end

