-- ==== Sys2Proof/Machine/Assembly.lean ====
section
/-!
DEFINITION. The assembler syntax (spec 30_encoding R96): an instruction of the command port as its line of text. The rows
that have no command code (opcodes, frames, control lines) have no such line.
-/

namespace Sys2Proof.Machine

/-- A bit as '0' or '1'. -/
def asmBit (b : Bool) : String := if b then "1" else "0"

/-- A cell as six bits in logical order, d1 first (R10, R96). -/
def asmCell (c : Cell) : String :=
  asmBit c.d1 ++ asmBit c.d2 ++ asmBit c.d3 ++ asmBit c.d4 ++ asmBit c.d5 ++ asmBit c.d6

/-- A Grid literal; the all-zero Grid is `G0` (R96). -/
def asmGrid (g : Grid) : String :=
  if g = Grid.zero then "G0" else "G[" ++ " ".intercalate (g.cells.map asmCell) ++ "]"

/-- A CellSeq literal (R96). -/
def asmCells (s : List Cell) : String := "S[" ++ " ".intercalate (s.map asmCell) ++ "]"

/-- Bytes as the characters of their codes (R61). -/
def asmText (bs : List Byte) : String := String.ofList (bs.map fun b => Char.ofNat b.toNat)

/-- A Line literal, in double quotes without its LF (R96). -/
def asmLine (l : Line) : String := "\"" ++ asmText l ++ "\""

/-- A channel value (R96): SEND, MODE, NEXT, else its number. -/
def asmChannel (ch : BitVec 2) : String :=
  match ch.toNat with
  | 0 => "SEND"
  | 1 => "MODE"
  | 2 => "NEXT"
  | n => toString n

/-- PINS_IN in channel order, SEND first (R96). -/
def asmPins (p : BitVec 3) : String := asmBit (p.getLsbD 0) ++ asmBit (p.getLsbD 1) ++ asmBit (p.getLsbD 2)

/-- A label's place in its type, after `L`: R96 gives a label no other literal (log 14). -/
def asmLabel (lab : Label) : String := "L" ++ toString lab.index

/-- An instruction's line of assembler text (R96). -/
def assembly : Instr → Option String
  | .nop _ => some "NOP"
  | .encode _ h g => some ("ENCODE hdr=" ++ asmBit h ++ ", grid=" ++ asmGrid g)
  | .normalize _ s => some ("NORMALIZE cells=" ++ asmCells s)
  | .decode _ l => some ("DECODE line=" ++ asmLine l)
  | .pushBack g => some ("PUSH_BACK grid=" ++ asmGrid g)
  | .pushFront g => some ("PUSH_FRONT grid=" ++ asmGrid g)
  | .peek => some "PEEK"
  | .advance c => some ("ADVANCE consume=" ++ asmBit c)
  | .poll ch p now => some ("POLL ch=" ++ asmChannel ch ++ ", pin=" ++ asmBit p ++ ", now=" ++ toString now)
  | .tickCheck now => some ("TICK_CHECK now=" ++ toString now)
  | .alertPost lab => some ("ALERT_POST label=" ++ asmLabel lab)
  | .hostPoll now => some ("HOST_POLL now=" ++ toString now)
  | .captureDone e s now =>
    some ("CAPTURE_DONE err=" ++ asmBit e ++ ", cells=" ++ asmCells s ++ ", now=" ++ toString now)
  | .duPoll now pins => some ("DU_POLL now=" ++ toString now ++ ", pins=" ++ asmPins pins)
  | .rxFrame l => some ("RX_FRAME line=" ++ asmLine l)
  | .reset _ now ok => some ("RESET now=" ++ toString now ++ ", open_ok=" ++ asmBit ok)
  | .opIdle _ => none
  | .opSend _ => none
  | .opGrade2 _ => none
  | .opGrade1 _ => none
  | .frameOrdinary _ => none
  | .frameAlert _ => none
  | .ctrlSend _ => none
  | .ctrlTrue _ => none
  | .ctrlFalse _ => none

end Sys2Proof.Machine
end

