-- ==== Sys2Proof/Tests/Slice0.lean ====
section
/-!
SUPPORT. Tests of single decodings and single steps, their expected results taken from spec/95_test_vectors.md and from the
encodings of spec/30_encoding.md, and for each statement with hypotheses a witness that meets them.
-/

namespace Sys2Proof.Tests

open Sys2Proof Sys2Proof.Machine

/-! ## Literals and small states -/

/-- A cell from its six logical-order bits, d1 first, written as a binary number. -/
def cellLit (n : Nat) : Cell :=
  ⟨n.testBit 5, n.testBit 4, n.testBit 3, n.testBit 2, n.testBit 1, n.testBit 0⟩

/-- A Grid from its 12 cells. -/
def gridLit (l : List Nat) (h : l.length = 12) : Grid := ⟨l.map cellLit, by simp [h]⟩

/-- A frame line from its header and its 12 groups of six transmitted characters. -/
def lineLit (h : Nat) (groups : List Nat) : Line :=
  (if h = 1 then 0x31#8 else 0x30#8) ::
    groups.flatMap fun n => [5, 4, 3, 2, 1, 0].map fun k => if n.testBit k then 0x31#8 else 0x30#8

/-- The Grid O1 of the test vectors. -/
def gO1 : Grid := gridLit [0b110000, 0, 0, 0, 0, 0, 0, 0, 0, 0, 0, 0] rfl
/-- The Grid O2. -/
def gO2 : Grid := gridLit [0b101000, 0b000111, 0, 0, 0, 0, 0, 0, 0, 0, 0, 0] rfl
/-- The Grid A. -/
def gA : Grid := gridLit [0b111111, 0, 0, 0, 0, 0, 0, 0, 0, 0, 0, 0] rfl
/-- The Grid A2. -/
def gA2 : Grid := gridLit [0b100000, 0b010000, 0, 0, 0, 0, 0, 0, 0, 0, 0, 0] rfl
/-- The Grid GD. -/
def gGD : Grid :=
  gridLit [0b100000, 0b010000, 0b001000, 0b000100, 0b000010, 0b000001, 0b110000, 0b011000, 0b001100, 0b000110,
    0b000011, 0b100001] rfl

/-- F(0, O1), from its table row. -/
def lineO1 : Line := lineLit 0 [0b101000, 0, 0, 0, 0, 0, 0, 0, 0, 0, 0, 0]
/-- F(1, A). -/
def lineA : Line := lineLit 1 [0b111111, 0, 0, 0, 0, 0, 0, 0, 0, 0, 0, 0]
/-- F(1, A2), V-ENC-4. -/
def lineA2 : Line := lineLit 1 [0b100000, 0b001000, 0, 0, 0, 0, 0, 0, 0, 0, 0, 0]
/-- F(0, GD), V-ENC-5. -/
def lineGD : Line :=
  lineLit 0 [0b100000, 0b001000, 0b000010, 0b010000, 0b000100, 0b000001, 0b101000, 0b001010, 0b010010, 0b010100,
    0b000101, 0b100001]

/-- `SEND` LF, as bytes (R61). -/
def bytesSend : List Byte := [0x53#8, 0x45#8, 0x4E#8, 0x44#8, 0x0A#8]
/-- `True` LF. -/
def bytesTrue : List Byte := [0x54#8, 0x72#8, 0x75#8, 0x65#8, 0x0A#8]
/-- `False` LF. -/
def bytesFalse : List Byte := [0x46#8, 0x61#8, 0x6C#8, 0x73#8, 0x65#8, 0x0A#8]

/-- The parameters of the test vectors, with IDLE_RECAL_INTERVAL = 1000. -/
def vectorParams : Config.Params := { Config.params with
  idleRecalInterval := 1000, linkCorruption := .none, labels := .upTo 2 }

/-- Power-on with those parameters, and two transport writes that succeed. -/
def base : State := { State.reset with cfg := vectorParams, env := ⟨[], [.ok, .ok], 0⟩ }
/-- `base` with SETTLE_SCOPE = GLOBAL. -/
def baseGlobal : State := { base with cfg := { vectorParams with settleScope := .global } }
/-- `base` whose next transport write fails after `n` bytes. -/
def failing (n : Nat) : State := { base with env := ⟨[], [.failed n], 0⟩ }
/-- The same with SETTLE_SCOPE = GLOBAL and the mode flag on. -/
def failingGlobal (n : Nat) : State := { baseGlobal.setModeFlag true with env := ⟨[], [.failed n], 0⟩ }
/-- `base` with FIFO_DEPTH = `n` and the given entries. -/
def withFifo (n : Nat) (fs : List Grid) : State :=
  { base with cfg := { vectorParams with fifoDepth := .bounded n }, du := { base.du with fifo := fs } }
/-- `base` during a capture. -/
def capturing : State := base.setHostPhase .capture
/-- `base` with both units FATAL. -/
def bothFatal : State := (base.setRun .du .fatal).setRun .host .fatal
/-- `base` with a line that stands at a port as the next turn. -/
def atPort (p : Presented) : State := base.setEnv { base.env with schedule := [.present p] }
/-- A channel in its settle window since 1000. -/
def pressedAt1000 : ChannelState := ⟨.pressed, false, true, 1000⟩

/-- What a step that ends in a next state leaves, seen through `f`. -/
def left {α : Type} (o : Host.Outcome State Fault Refusal) (f : State → α) : Option α :=
  match o with
  | .next t => some (f t)
  | .fault _ => none
  | .refused _ => none

/-! ## WellFormed -/

/-- A POLL of channel 3 is ill-formed (R93). -/
theorem test_poll_channel_three_ill_formed : (Instr.poll 3#2 false 0).wellFormed = false := by decide
theorem test_poll_channel_two_well_formed : (Instr.poll 2#2 true 7).wellFormed = true := by decide

/-! ## Decoding, from the tables of 30_encoding -/

/-- The sixteen operation codes of R92, bit by bit. -/
theorem test_decode_nop : decode (.command .du 0b0000000000000000#16 {}) = .ok (.nop .du) := by rfl
theorem test_decode_encode :
    decode (.command .host 0b0001000010000000#16 { grid := gA }) = .ok (.encode .host true gA) := by rfl
theorem test_decode_normalize :
    decode (.command .host 0b0010000000000000#16 { cells := [cellLit 0b110000] }) = .ok (.normalize .host [cellLit 0b110000]) := by rfl
theorem test_decode_decode :
    decode (.command .du 0b0011000000000000#16 { line := lineA }) = .ok (.decode .du lineA) := by rfl
theorem test_decode_push_back :
    decode (.command .du 0b0100000000000000#16 { grid := gO1 }) = .ok (.pushBack gO1) := by rfl
theorem test_decode_push_front :
    decode (.command .du 0b0101000000000000#16 { grid := gA }) = .ok (.pushFront gA) := by rfl
theorem test_decode_peek : decode (.command .du 0b0110000000000000#16 {}) = .ok (.peek) := by rfl
theorem test_decode_advance : decode (.command .du 0b0111000100000000#16 {}) = .ok (.advance true) := by rfl
theorem test_decode_poll_send :
    decode (.command .du 0b1000001000000000#16 { now := 1050 }) = .ok (.poll 0#2 true 1050) := by rfl
theorem test_decode_poll_next :
    decode (.command .du 0b1000100000000000#16 { now := 5 }) = .ok (.poll 2#2 false 5) := by rfl
theorem test_decode_tick_check :
    decode (.command .du 0b1001000000000000#16 { now := 499 }) = .ok (.tickCheck 499) := by rfl
theorem test_decode_alert_post :
    decode (.command .host 0b1010000000000000#16 { label := ⟨7⟩ }) = .ok (.alertPost ⟨7⟩) := by rfl
theorem test_decode_host_poll : decode (.command .host 0b1011000000000000#16 { now := 5 }) = .ok (.hostPoll 5) := by rfl
theorem test_decode_capture_done :
    decode (.command .host 0b1100000001000000#16 { now := 3 }) = .ok (.captureDone true [] 3) := by rfl
theorem test_decode_du_poll :
    decode (.command .du 0b1101000000000000#16 { now := 20, pins := 0b101#3 }) = .ok (.duPoll 20 0b101#3) := by rfl
theorem test_decode_rx_frame :
    decode (.command .du 0b1110000000000000#16 { line := lineO1 }) = .ok (.rxFrame lineO1) := by rfl
theorem test_decode_reset :
    decode (.command .host 0b1111000000000000#16 { now := 777, openOk := true }) = .ok (.reset .host 777 true) := by rfl
/-- The four opcodes of R86. -/
theorem test_decode_op_idle : decode (.opcode 0b00#2 { now := 9 }) = .ok (.opIdle 9) := by rfl
theorem test_decode_op_send : decode (.opcode 0b01#2 { now := 9 }) = .ok (.opSend 9) := by rfl
theorem test_decode_op_grade2 : decode (.opcode 0b10#2 { now := 9 }) = .ok (.opGrade2 9) := by rfl
theorem test_decode_op_grade1 : decode (.opcode 0b11#2 { now := 9 }) = .ok (.opGrade1 9) := by rfl
/-- V-ENC-5 and V-DEC-1: every cell of GD stands in transmitted order on the wire. -/
theorem test_decode_frame_ordinary : decode (.line .du lineGD {}) = .ok (.frameOrdinary gGD) := by decide
/-- V-ENC-4. -/
theorem test_decode_frame_alert : decode (.line .du lineA2 {}) = .ok (.frameAlert gA2) := by decide
/-- The control lines of R84, from the codes of R61. -/
theorem test_decode_ctrl_send :
    decode (.line .host [0x53#8, 0x45#8, 0x4E#8, 0x44#8] { now := 20 }) = .ok (.ctrlSend 20) := by rfl
theorem test_decode_ctrl_true :
    decode (.line .host [0x54#8, 0x72#8, 0x75#8, 0x65#8] { now := 5 }) = .ok (.ctrlTrue 5) := by rfl
theorem test_decode_ctrl_false :
    decode (.line .host [0x46#8, 0x61#8, 0x6C#8, 0x73#8, 0x65#8] { now := 6 }) = .ok (.ctrlFalse 6) := by rfl
/-- V-CW-2. -/
theorem test_reject_channel_three : decode (.command .du 0x8C00#16 {}) = .error .channelThree := by rfl
/-- V-CW-3. -/
theorem test_reject_reserved_bits : decode (.command .du 0x8001#16 {}) = .error .reservedBits := by rfl
/-- V-CW-4. -/
theorem test_reject_header_of_push_back : decode (.command .du 0x4080#16 {}) = .error .unusedField := by rfl
/-- V-CW-5. -/
theorem test_reject_alert_post_at_the_du : decode (.command .du 0xA000#16 {}) = .error .otherUnit := by rfl
/-- V-CW-6. -/
theorem test_reject_du_poll_at_the_host : decode (.command .host 0xD000#16 {}) = .error .otherUnit := by rfl
/-- V-CW-7. -/
theorem test_reject_advance_at_the_host : decode (.command .host 0x7100#16 {}) = .error .otherUnit := by rfl
/-- V-CW-10. -/
theorem test_reject_header_of_capture_done : decode (.command .host 0xC080#16 {}) = .error .unusedField := by rfl
/-- V-CW-11. -/
theorem test_reject_pin_of_advance : decode (.command .du 0x7200#16 {}) = .error .unusedField := by rfl
/-- V-DEC-5. -/
theorem test_reject_frame_with_cr :
    decode (.line .du (lineO1 ++ [0x0D#8]) {}) = .error (.malformedFrame .length) := by decide
/-- V-DEC-7, on O1. -/
theorem test_reject_frame_with_x :
    decode (.line .du (lineO1.set 40 0x78#8) {}) = .error (.malformedFrame (.charset 40)) := by decide
/-- V-CDEC-7. -/
theorem test_reject_send_with_space : decode (.line .host (0x20#8 :: lineSend) {}) = .error .notAControlLine := by rfl

/-! ## Table words, least significant bit first -/

/-- R95. -/
theorem test_table_poll : decodeTableWord 16 0x8400 = some (.poll 1#2 false 0) := by decide
theorem test_table_host_poll : decodeTableWord 16 0xB000 = some (.hostPoll 0) := by decide
theorem test_table_illegal : decodeTableWord 16 0x8C00 = none := by decide
theorem test_table_op_grade1 : decodeTableWord 8 3 = some (.opGrade1 0) := by decide
/-- `S` is the lowest byte, LF the highest. -/
theorem test_table_ctrl_send : decodeTableWord 40 0x0A444E4553 = some (.ctrlSend 0) := by decide
theorem test_table_ctrl_false : decodeTableWord 48 0x0A65736C6146 = some (.ctrlFalse 0) := by decide
/-- A frame with header '1' and 72 characters '0'. -/
theorem test_table_frame_alert : decodeTableWord 592
      0x0A30303030303030303030303030303030303030303030303030303030303030303030303030303030303030303030303030303030303030303030303030303030303030303030303031 =
    some (.frameAlert Grid.zero) := by decide
/-- The very next step runs the word. -/
theorem test_fetch_word :
    left (step (State.reset.withFetchWord 16 0xD000)) (·.du.run) =
      left (exec (.duPoll 0 0#3) State.reset) (·.du.run) := by rfl
theorem test_core_steps : Sys2Proof.core.step = step ∧ Sys2Proof.core.reset = State.reset := ⟨rfl, rfl⟩

/-! ## The codec -/

/-- V-CELL-2: transmitted `001000`. -/
theorem test_reorder_d2 : reorder (cellLit 0b010000) = ⟨false, false, true, false, false, false⟩ := by decide
/-- V-CELL-2, third column. -/
theorem test_restore_differs_from_reorder :
    restore ⟨false, true, false, false, false, false⟩ = cellLit 0b000100 := by decide
/-- R245. -/
theorem test_nop : exec (.nop .host) base = .next base := by rfl
/-- V-ENC-5. -/
theorem test_encode_gd :
    left (exec (.encode .host false gGD) base) (·.host.out.frameOut) = some (some (lineGD ++ [0x0A#8])) := by decide
/-- V-ENC-4. -/
theorem test_encode_a2 :
    left (exec (.encode .du true gA2) base) (·.du.out.frameOut) = some (some (lineA2 ++ [0x0A#8])) := by decide
/-- V-NORM-2. -/
theorem test_normalize_pads :
    left (exec (.normalize .du [cellLit 0b110000]) base) (·.du.out.gridOut) = some (some gO1) := by decide
/-- V-NORM-5. -/
theorem test_normalize_truncates :
    left (exec (.normalize .host (gGD.cells ++ [cellLit 0b111111])) base) (·.host.out.gridOut) = some (some gGD) := by decide
/-- V-DEC-11. -/
theorem test_decode_line :
    left (exec (.decode .du (lineLit 0 [0b010101, 0, 0, 0, 0, 0, 0, 0, 0, 0, 0, 0])) base)
      (fun t => (t.du.out.ok, t.du.out.hdrOut, (t.du.out.gridOut.map (·.cell 0)))) =
    some (some true, some false, some (cellLit 0b000111)) := by decide
/-- V-DEC-6: no error is recorded. -/
theorem test_decode_bad_header :
    left (exec (.decode .host (0x32#8 :: lineO1.tail)) base) (fun t => (t.host.out.ok, t.host.status)) =
    some (some false, 0x00#8) := by decide
/-- V-RX-6. -/
theorem test_rx_frame_evicts :
    left (exec (.rxFrame lineA) (withFifo 2 [gO1, gO2])) (fun t => (t.du.fifo, t.du.trace, t.du.status)) =
    some ([gA, gO1], [.buzz, .error (.fifoOverflow .front)], 0x02#8) := by decide
/-- V-RX-3. -/
theorem test_rx_frame_malformed :
    left (exec (.rxFrame lineA.dropLast) (withFifo 16 [gO1])) (fun t => (t.du.fifo, t.du.trace, t.du.status)) =
    some ([gO1], [.logMalformed lineA.dropLast, .error .malformedFrame], 0x01#8) := by decide
/-- V-RX-4. -/
theorem test_frame_ordinary :
    left (exec (.frameOrdinary gO1) (withFifo 16 [gO1])) (fun t => (t.du.fifo, t.du.trace)) = some ([gO1, gO1], []) := by decide
/-- V-RX-2. -/
theorem test_frame_alert :
    left (exec (.frameAlert gA) (withFifo 16 [gO1, gO2])) (fun t => (t.du.fifo, t.du.trace)) =
    some ([gA, gO1, gO2], [.buzz]) := by decide

/-! ## The FIFO -/

/-- R171. -/
theorem test_push_back : left (exec (.pushBack gO2) (withFifo 16 [gO1])) (·.du.fifo) = some [gO1, gO2] := by decide
/-- V-FIFO-6. -/
theorem test_push_back_rejected :
    left (exec (.pushBack gO2) (withFifo 1 [gO1])) (fun t => (t.du.fifo, t.du.status)) = some ([gO1], 0x02#8) := by decide
/-- V-FIFO-5. -/
theorem test_push_front :
    left (exec (.pushFront gA2) (withFifo 16 [gA, gO1])) (·.du.fifo) = some [gA2, gA, gO1] := by decide
/-- V-FIFO-7. -/
theorem test_push_front_evicts :
    left (exec (.pushFront gA) (withFifo 1 [gO1])) (fun t => (t.du.fifo, t.du.status)) = some ([gA], 0x02#8) := by decide
/-- R173. -/
theorem test_peek :
    left (exec .peek (withFifo 16 [gA, gO1])) (fun t => (t.du.out.frontValid, t.du.out.front)) =
    some (some true, some gA) := by decide
/-- V-FIFO-3. -/
theorem test_peek_empty : left (exec .peek base) (·.du.out.frontValid) = some (some false) := by decide
/-- R174. -/
theorem test_advance :
    left (exec (.advance true) (withFifo 16 [gA, gO1, gO2])) (fun t => (t.du.fifo, t.du.out.front)) =
    some ([gO1, gO2], some gO1) := by decide
/-- V-FIFO-4. -/
theorem test_advance_last :
    left (exec (.advance true) (withFifo 16 [gO1])) (fun t => (t.du.fifo, t.du.out.frontValid)) =
    some ([], some false) := by decide

/-! ## Buttons and the tick -/

/-- V-DB-1, step 1. -/
theorem test_poll_send :
    left (exec (.poll 0#2 false 1000) base) (fun t => (t.du.out.pulse, t.du.ch.send, t.linkDH)) =
    some (some true, pressedAt1000, bytesSend) := by decide
/-- V-DB-5, step 3. -/
theorem test_poll_mode_off :
    left (exec (.poll 1#2 false 200) (base.setModeFlag true)) (fun t => (t.du.modeFlag, t.du.trace)) =
    some (false, [.renderMode false, .tx bytesFalse]) := by decide
/-- V-DB-7, step 2. -/
theorem test_poll_in_the_global_window :
    left (exec (.poll 1#2 false 50) (baseGlobal.setGsettle ⟨true, 0⟩)) (fun t => (t.du.pulse.mode, t.du.ch.mode.phase)) =
    some (false, .released) := by decide
/-- V-TICK-2. -/
theorem test_tick_wraps :
    left (exec (.tickCheck 400) (base.setTickLastFire (2 ^ 32 - 100))) (fun t => (t.du.out.fire, t.du.tickLastFire)) =
    some (some true, 400) := by decide
/-- V-TICK-1. -/
theorem test_tick_not_due : left (exec (.tickCheck 499) base) (·.du.out.fire) = some (some false) := by decide
/-- P4, step 1. -/
theorem test_du_poll_alert_first :
    left (exec (.duPoll 1000 0b111#3) (base.setRxBuf .du (lineO1 ++ [0x0A#8] ++ lineA2 ++ [0x0A#8])))
      (fun t => (t.du.fifo, t.du.trace, t.du.tickLastFire)) =
    some ([gA2, gO1], [.buzz, .render (some gA2)], 1000) := by decide
/-- P4, step 2: PINS_IN (1, 1, 0), so bit 2 is 0. -/
theorem test_du_poll_next :
    left (exec (.duPoll 1100 0b011#3) ((withFifo 16 [gA2, gO1]).setTickLastFire 1000)) (fun t => (t.du.fifo, t.du.trace)) =
    some ([gO1], []) := by decide

/-! ## The host -/

/-- R207: the latest wins. -/
theorem test_alert_post :
    left (exec (.alertPost ⟨2⟩) (base.setMailbox ⟨true, ⟨1⟩⟩)) (·.host.mailbox) = some ⟨true, ⟨2⟩⟩ := by decide
/-- V-DISP-3. -/
theorem test_host_poll_last_line :
    left (exec (.hostPoll 5) (base.setRxBuf .host (bytesSend ++ bytesTrue)))
      (fun t => (t.host.grade, t.host.phase, t.opcodePort, t.host.rxBuf)) =
    some (.grade2, .polling, 0b10#2, []) := by decide
/-- V-DISP-11, step 2. -/
theorem test_host_poll_recalibrates :
    left (exec (.hostPoll 1000) base) (fun t => (t.host.trace, t.host.idleStart)) = some ([.recalRequest], 1000) := by decide
/-- V-DISP-13. -/
theorem test_capture_done :
    left (exec (.captureDone false [cellLit 0b110000] 900) capturing)
      (fun t => (t.host.phase, t.host.idleStart, t.linkHD)) =
    some (.polling, 900, lineO1 ++ [0x0A#8]) := by decide
/-- V-DISP-8, step 3. -/
theorem test_capture_failed :
    left (exec (.captureDone true [] 3) capturing) (fun t => (t.host.phase, t.host.status, t.linkHD)) =
    some (.polling, 0x02#8, []) := by decide
/-- V-DISP-9, step 2. -/
theorem test_op_idle_takes_the_alert :
    left (exec (.opIdle 10) (base.setMailbox ⟨true, ⟨1⟩⟩)) (·.host.mailbox.pending) = some false := by rfl
/-- R202. -/
theorem test_op_send :
    left (exec (.opSend 20) base) (fun t => (t.host.phase, t.host.trace, t.host.idleStart)) =
    some (.capture, [.captureStart], 20) := by decide
/-- R203. -/
theorem test_op_grade2 :
    left (exec (.opGrade2 5) base) (fun t => (t.host.grade.g2, t.host.idleStart)) = some (true, 5) := by decide
/-- R204. -/
theorem test_op_grade1 :
    left (exec (.opGrade1 6) (base.setGrade .grade2)) (fun t => (t.host.grade.g2, t.host.idleStart)) = some (false, 6) := by decide
/-- V-DISP-1. -/
theorem test_ctrl_send :
    left (exec (.ctrlSend 5) base) (fun t => (t.host.phase, t.opcodePort)) = some (.capture, 0b01#2) := by decide
/-- V-DISP-2. -/
theorem test_ctrl_true :
    left (exec (.ctrlTrue 5) base) (fun t => (t.host.grade, t.opcodePort)) = some (.grade2, 0b10#2) := by decide
/-- V-DISP-7. -/
theorem test_ctrl_false :
    left (exec (.ctrlFalse 6) (base.setGrade .grade2)) (fun t => (t.host.grade, t.opcodePort)) =
    some (.grade1, 0b11#2) := by decide

/-- R316 and R319: during a capture the pending alert waits, and no recalibration is requested. -/
theorem test_op_idle_during_a_capture :
    left (exec (.opIdle 5000) (capturing.setMailbox ⟨true, ⟨1⟩⟩))
      (fun t => (t.host.mailbox.pending, t.host.trace, t.linkHD)) =
    some (true, [.error .illegalCommand], []) := by decide

/-! ## Transport, RESET, illegal commands -/

/-- V-TR-6. -/
theorem test_failed_write :
    (fun t => (t.linkDH, t.du.status, t.du.trace)) (txWrite .du bytesFalse (failing 3)) =
    ([0x46#8, 0x61#8, 0x6C#8], 0x04#8, [.tx bytesFalse, .error .transportWriteFailure]) := by decide
/-- V-TR-3. -/
theorem test_drain_keeps_the_rest :
    drainedLines .du (base.setRxBuf .du [0x78#8, 0x0A#8, 0x79#8]) = [[0x78#8]] ∧
    (rxDrain .du (base.setRxBuf .du [0x78#8, 0x0A#8, 0x79#8])).du.rxBuf = [0x79#8] := by decide
/-- V-RST-1. -/
theorem test_reset :
    left (exec (.reset .du 777 true) ((withFifo 16 [gO1]).setModeFlag true))
      (fun t => (t.du.fifo, t.du.modeFlag, t.du.tickLastFire, t.du.run)) =
    some ([], false, 777, .running) := by decide
/-- V-RST-2. -/
theorem test_reset_fails :
    left (exec (.reset .host 0 false) base) (fun t => (t.host.run, t.host.trace)) =
    some (.fatal, [.error .initFailure]) := by decide
/-- V-CW-3 and R275. -/
theorem test_illegal_word :
    left (step (atPort (.command .du 0x8001#16 {}))) (fun t => (t.du.status, t.du.trace)) =
    some (0x08#8, [.error .illegalCommand]) := by decide
/-- V-CDEC-6: the host acts on it as on opcode 00. -/
theorem test_send_with_cr_is_idle :
    left (step (atPort (.line .host (lineSend ++ [0x0D#8]) { now := 5 }))) (fun t => (t.host.phase, t.opcodePort)) =
    some (.polling, 0b00#2) := by decide

/-! ## Assembler syntax -/

/-- The first example of R96. -/
theorem test_assembly_poll : assembly (.poll 1#2 false 1000) = some "POLL ch=MODE, pin=0, now=1000" := by decide
/-- P4, step 2: the pin of NEXT, bit 2, is written last. -/
theorem test_assembly_du_poll : assembly (.duPoll 1100 0b011#3) = some "DU_POLL now=1100, pins=110" := by rfl
/-- R97. -/
theorem test_pseudo_commands : pseudoPress .mode 5 = .poll 1#2 false 5 ∧ pseudoConsume = .advance true := ⟨rfl, rfl⟩

/-! ## Witnesses: for each statement with hypotheses, states and operands that meet them, at the bounds -/

/-- Both units of `base` run, as every statement about a running unit asks. -/
theorem witness_running : base.du.run = .running ∧ base.host.run = .running := ⟨rfl, rfl⟩
/-- Both units of `bothFatal` are FATAL. -/
theorem witness_FatalUnitAcceptsOnlyReset :
    bothFatal.runOf (encode (.duPoll 5 7#3)).unit = .fatal ∧ bothFatal.runOf (encode (.opSend 5)).unit = .fatal ∧
    (∀ u now ok, (Instr.opSend 5) ≠ .reset u now ok) ∧
    bothFatal.runOf (receiver .hd) = .fatal ∧ bothFatal.runOf (receiver .dh) = .fatal :=
  ⟨rfl, rfl, by simp, rfl, rfl⟩
theorem witness_EncodeDrivesTheFrame : base.du.run = .running ∧ base.host.run = .running := witness_running
theorem witness_NormalizeTakesTwelveCells : base.du.run = .running ∧ base.host.run = .running := witness_running
/-- A valid line; lines of 72 and 74 characters and one with a bad last character are not valid. -/
theorem witness_DecodeReportsOneLine :
    ValidFrameLine lineGD ∧ ¬ ValidFrameLine lineGD.dropLast ∧ ¬ ValidFrameLine (lineGD ++ [0x30#8]) ∧
    (lineGD.set 72 0x32#8).length = 73 ∧ (lineGD.set 72 0x32#8)[72]? = some 0x32#8 ∧
    (∀ j < 72, (lineGD.set 72 0x32#8)[j]? = some 0x30#8 ∨ (lineGD.set 72 0x32#8)[j]? = some 0x31#8) ∧
    base.du.run = .running ∧ base.host.run = .running :=
  ⟨⟨rfl, by decide⟩, fun h => absurd h.1 (by decide), fun h => absurd h.1 (by decide), rfl, rfl, by decide, rfl, rfl⟩

/-- A FIFO with one free place, and one without a bound. -/
theorem witness_fifo_has_room :
    FifoHasRoom (withFifo 2 [gO1]) ∧ (withFifo 2 [gO1]).du.run = .running ∧
    FifoHasRoom { base with cfg := { vectorParams with fifoDepth := .unbounded } } :=
  ⟨.inr ⟨2, rfl, by decide⟩, rfl, .inl rfl⟩
/-- A FIFO exactly full, of depth 2 and of depth 1. -/
theorem witness_fifo_full :
    FifoFull (withFifo 2 [gO1, gO2]) 2 ∧ (withFifo 2 [gO1, gO2]).du.run = .running ∧ FifoFull (withFifo 1 [gO1]) 1 :=
  ⟨⟨rfl, by decide⟩, rfl, ⟨rfl, by decide⟩⟩
/-- A malformed line and the frames of both headers, each with a FIFO with room and a full one. -/
theorem witness_RxFrameRoutesOneLine :
    ¬ ValidFrameLine [] ∧ IsFrameOf lineGD false gGD ∧ IsFrameOf lineA2 true gA2 ∧
    FifoHasRoom (withFifo 2 [gO1]) ∧ FifoFull (withFifo 1 [gO1]) 1 ∧
    (withFifo 2 [gO1]).du.run = .running ∧ (withFifo 1 [gO1]).du.run = .running :=
  ⟨fun h => absurd h.1 (by decide), ⟨rfl, rfl, by decide⟩, ⟨rfl, rfl, by decide⟩, witness_fifo_has_room.1,
    witness_fifo_full.2.2, rfl, rfl⟩
theorem witness_FramesInsertTheirGrid :
    FifoHasRoom (withFifo 2 [gO1]) ∧ FifoFull (withFifo 1 [gO1]) 1 ∧
    (withFifo 2 [gO1]).du.run = .running ∧ (withFifo 1 [gO1]).du.run = .running :=
  ⟨witness_fifo_has_room.1, witness_fifo_full.2.2, rfl, rfl⟩
theorem witness_PushBackAppendsOrRejects :
    FifoHasRoom (withFifo 2 [gO1]) ∧ FifoFull (withFifo 2 [gO1, gO2]) 2 ∧
    (withFifo 2 [gO1]).du.run = .running ∧ (withFifo 2 [gO1, gO2]).du.run = .running :=
  ⟨witness_fifo_has_room.1, witness_fifo_full.1, rfl, rfl⟩
theorem witness_PushFrontInsertsOrEvicts :
    FifoHasRoom (withFifo 2 [gO1]) ∧ FifoFull (withFifo 1 [gO1]) 1 ∧
    (withFifo 2 [gO1]).du.run = .running ∧ (withFifo 1 [gO1]).du.run = .running :=
  ⟨witness_fifo_has_room.1, witness_fifo_full.2.2, rfl, rfl⟩
theorem witness_PeekShowsTheFront :
    (withFifo 16 [gA]).du.fifo = gA :: [] ∧ (withFifo 16 []).du.fifo = [] ∧
    (withFifo 16 [gA]).du.run = .running ∧ (withFifo 16 []).du.run = .running := ⟨rfl, rfl, rfl, rfl⟩
theorem witness_AdvancePopsOnlyWhenConsuming :
    (withFifo 16 [gA, gO1]).du.fifo = gA :: gO1 :: [] ∧ (withFifo 16 [gA]).du.fifo = [gA] ∧
    (withFifo 16 [gA]).du.fifo = gA :: [] ∧ base.du.fifo = [] ∧
    (withFifo 16 [gA, gO1]).du.run = .running ∧ (withFifo 16 [gA]).du.run = .running ∧ base.du.run = .running :=
  ⟨rfl, rfl, rfl, rfl, rfl, rfl, rfl⟩
theorem witness_AlertGoesAheadOfOrdinaryItems :
    (withFifo 3 []).du.run = .running ∧ (withFifo 3 []).du.fifo = [] ∧
    ((withFifo 3 []).cfg.fifoDepth = .unbounded ∨
      ∃ n, (withFifo 3 []).cfg.fifoDepth = .bounded n ∧ 3 ≤ n) :=
  ⟨rfl, rfl, .inr ⟨3, rfl, by decide⟩⟩
theorem witness_OrdinaryGridsLeaveInOrder :
    (withFifo 3 [gA]).du.run = .running ∧
    ((withFifo 3 [gA]).cfg.fifoDepth = .unbounded ∨
      ∃ n, (withFifo 3 [gA]).cfg.fifoDepth = .bounded n ∧ (withFifo 3 [gA]).du.fifo.length + [gO1, gO2].length ≤ n) :=
  ⟨rfl, .inr ⟨3, rfl, by decide⟩⟩

/-- A channel in its window since 1000, and the global window open since 1000. -/
def inWindow : State := base.setChannel .send pressedAt1000
/-- The global settle window open since 1000. -/
def inGlobalWindow : State := (baseGlobal.setChannel .send ⟨.pressed, false, false, 0⟩).setGsettle ⟨true, 1000⟩

/-- The last time at which either window is open. -/
theorem witness_PollInsideTheWindowSamplesNothing :
    inWindow.du.run = .running ∧ SettleWindowOpen .send (inWindow.clock 1099) inWindow ∧
    inGlobalWindow.du.run = .running ∧ SettleWindowOpen .mode (inGlobalWindow.clock 1099) inGlobalWindow :=
  ⟨rfl, .inl ⟨rfl, rfl, by decide⟩, rfl, .inr ⟨rfl, rfl, by decide⟩⟩
/-- The first time at which neither is, with a Pressed channel; and a Released channel whose pin is inactive. -/
theorem witness_SampledPollWithoutPress :
    ¬ SettleWindowOpen .send (inWindow.clock 1100) inWindow ∧ (inWindow.du.ch.get .send).phase = .pressed ∧
    inWindow.cfg.settleScope = .perChannel ∧ inWindow.du.run = .running ∧
    ¬ SettleWindowOpen .send (inGlobalWindow.clock 1100) inGlobalWindow ∧
    (inGlobalWindow.du.ch.get .send).phase = .pressed ∧ inGlobalWindow.cfg.settleScope = .global ∧
    inGlobalWindow.du.run = .running ∧
    ¬ SettleWindowOpen .next (base.clock 0) base ∧ (base.du.ch.get .next).phase = .released := by
  refine ⟨?_, rfl, rfl, rfl, ?_, rfl, rfl, rfl, ?_, rfl⟩ <;> unfold SettleWindowOpen <;> decide
/-- Released channels that no window keeps from being sampled, in both scopes: of the global one at the first such time. -/
theorem witness_released_and_sampled (i : Channel) :
    base.du.run = .running ∧ ¬ SettleWindowOpen i (base.clock 0) base ∧ (base.du.ch.get i).phase = .released ∧
    base.cfg.settleScope = .perChannel ∧ nextAnswer base = .ok ∧
    (baseGlobal.setGsettle ⟨true, 0⟩).du.run = .running ∧
    ¬ SettleWindowOpen i ((baseGlobal.setGsettle ⟨true, 0⟩).clock 100) (baseGlobal.setGsettle ⟨true, 0⟩) ∧
    ((baseGlobal.setGsettle ⟨true, 0⟩).du.ch.get i).phase = .released ∧
    (baseGlobal.setGsettle ⟨true, 0⟩).cfg.settleScope = .global ∧
    nextAnswer (baseGlobal.setGsettle ⟨true, 0⟩) = .ok := by
  cases i <;> refine ⟨rfl, ?_, rfl, rfl, rfl, rfl, ?_, rfl, rfl, rfl⟩ <;> unfold SettleWindowOpen <;> decide
theorem witness_PressOfNextPulsesAndSendsNothing :
    base.du.run = .running ∧ ¬ SettleWindowOpen .next (base.clock 0) base ∧ base.du.ch.next.phase = .released ∧
    base.cfg.settleScope = .perChannel ∧ baseGlobal.du.run = .running ∧
    ¬ SettleWindowOpen .next (baseGlobal.clock 0) baseGlobal ∧ baseGlobal.du.ch.next.phase = .released ∧
    baseGlobal.cfg.settleScope = .global := by
  refine ⟨rfl, ?_, rfl, rfl, rfl, ?_, rfl, rfl⟩ <;> unfold SettleWindowOpen <;> decide
theorem witness_PressOfSendSendsSend :
    base.du.run = .running ∧ ¬ SettleWindowOpen .send (base.clock 0) base ∧ base.du.ch.send.phase = .released ∧
    nextAnswer base = .ok ∧ base.cfg.settleScope = .perChannel ∧ baseGlobal.du.run = .running ∧
    ¬ SettleWindowOpen .send (baseGlobal.clock 0) baseGlobal ∧ baseGlobal.du.ch.send.phase = .released ∧
    nextAnswer baseGlobal = .ok ∧ baseGlobal.cfg.settleScope = .global := by
  refine ⟨rfl, ?_, rfl, rfl, rfl, rfl, ?_, rfl, rfl, rfl⟩ <;> unfold SettleWindowOpen <;> decide
theorem witness_PressOfModeTogglesAndSendsTheFlag :
    base.du.run = .running ∧ ¬ SettleWindowOpen .mode (base.clock 0) base ∧ base.du.ch.mode.phase = .released ∧
    nextAnswer base = .ok ∧ base.cfg.settleScope = .perChannel ∧ baseGlobal.du.run = .running ∧
    ¬ SettleWindowOpen .mode (baseGlobal.clock 0) baseGlobal ∧ baseGlobal.du.ch.mode.phase = .released ∧
    nextAnswer baseGlobal = .ok ∧ baseGlobal.cfg.settleScope = .global := by
  refine ⟨rfl, ?_, rfl, rfl, rfl, rfl, ?_, rfl, rfl, rfl⟩ <;> unfold SettleWindowOpen <;> decide
/-- The longest prefixes: 4 bytes of `SEND` LF and `True` LF, 5 of `False` LF; each in both scopes. -/
theorem witness_PressWithAFailedWrite :
    (failing 4).du.run = .running ∧ nextAnswer (failing 4) = .failed 4 ∧ (failing 4).cfg.settleScope = .perChannel ∧
    (∀ i, ¬ SettleWindowOpen i ((failing 4).clock 0) (failing 4)) ∧ (failing 4).du.ch.send.phase = .released ∧
    (failing 4).du.ch.mode.phase = .released ∧ 4 < 5 ∧ 4 < (lineTrue ++ [LF]).length ∧
    (failingGlobal 5).du.run = .running ∧ nextAnswer (failingGlobal 5) = .failed 5 ∧
    (failingGlobal 5).cfg.settleScope = .global ∧
    (∀ i, ¬ SettleWindowOpen i ((failingGlobal 5).clock 0) (failingGlobal 5)) ∧
    (failingGlobal 5).du.ch.mode.phase = .released ∧ (failingGlobal 5).du.modeFlag = true ∧
    5 < (lineFalse ++ [LF]).length ∧
    nextAnswer (failingGlobal 4) = .failed 4 ∧ (failingGlobal 4).du.ch.send.phase = .released := by
  refine ⟨rfl, rfl, rfl, fun i => ?_, rfl, rfl, by decide, by decide, rfl, rfl, rfl, fun i => ?_, rfl, rfl, by decide,
    rfl, rfl⟩ <;> cases i <;> unfold SettleWindowOpen <;> decide
theorem witness_HeldButtonGivesOnePulse :
    base.du.run = .running ∧ ¬ SettleWindowOpen .send (base.clock 0) base ∧ (base.du.ch.get .send).phase = .released :=
  ⟨rfl, (witness_released_and_sampled .send).2.1, rfl⟩
/-- Bounces at 1000 (the press itself) and at 1099 (the last time within SETTLE_TIME of it). -/
theorem witness_SinglePressGivesOnePulse :
    base.du.run = .running ∧ ¬ SettleWindowOpen .send (base.clock 1000) base ∧
    (base.du.ch.get .send).phase = .released ∧
    (∀ b ∈ [(true, 1000), (false, 1050), (true, 1099)],
      elapsed base.cfg (base.clock b.2) (base.clock 1000) < base.cfg.settleTime) := by
  refine ⟨rfl, ?_, rfl, by decide⟩
  unfold SettleWindowOpen
  decide
/-- V-DB-5: each release exactly SETTLE_TIME after its press. -/
theorem witness_DoubleToggleReturnsTheFlag :
    base.du.run = .running ∧ base.cfg.settleScope = .perChannel ∧ ¬ SettleWindowOpen .mode (base.clock 0) base ∧
    base.du.ch.mode.phase = .released ∧ base.cfg.settleTime ≤ elapsed base.cfg (base.clock 100) (base.clock 0) ∧
    base.cfg.settleTime ≤ elapsed base.cfg (base.clock 300) (base.clock 200) ∧
    (∃ rest, base.env.answers = .ok :: .ok :: rest) :=
  ⟨rfl, rfl, (witness_released_and_sampled .mode).2.1, rfl, by decide, by decide, [], rfl⟩
/-- V-TICK-1: 500 is due, 499 is not. -/
theorem witness_TickCheckFiresAfterTheInterval :
    base.du.run = .running ∧ base.cfg.tickInterval ≤ elapsed base.cfg (base.clock 500) base.du.tickLastFire ∧
    elapsed base.cfg (base.clock 499) base.du.tickLastFire < base.cfg.tickInterval :=
  ⟨rfl, by decide, by decide⟩
/-- The second check follows at once, just before the interval, at it, and as late as the time source allows. -/
theorem witness_TickFiresOncePerInterval :
    base.du.run = .running ∧ base.cfg.tickInterval ≤ elapsed base.cfg (base.clock 5000) base.du.tickLastFire ∧
    (∀ d ∈ [0, 499, 500, 2 ^ 32 - 1], d < 2 ^ base.cfg.timeWidth) := ⟨rfl, by decide, by decide⟩
/-- The last value of a type of three, and a place outside it. -/
theorem witness_AlertPostReplacesTheMailbox :
    base.host.run = .running ∧ LabelInType base.cfg.labels ⟨2⟩ ∧ ¬ LabelInType base.cfg.labels ⟨3⟩ ∧
    capturing.host.run = .running := ⟨rfl, (by decide : 2 ≤ 2), (by decide : ¬ 3 ≤ 2), rfl⟩
theorem witness_NonIdleOpcodes : base.host.run = .running ∧ base.host.phase = .polling := ⟨rfl, rfl⟩
/-- V-DISP-11: 999 is not due, 1000 is. -/
theorem witness_IdleOpcodeWithoutAlert :
    base.host.run = .running ∧ base.host.phase = .polling ∧ base.host.mailbox.pending = false ∧
    elapsed base.cfg (base.clock 999) base.host.idleStart < base.cfg.idleRecalInterval ∧
    base.cfg.idleRecalInterval ≤ elapsed base.cfg (base.clock 1000) base.host.idleStart :=
  ⟨rfl, rfl, rfl, by decide, by decide⟩
/-- A pending alert with a write that succeeds, and with writes that fail after 0 and after 73 bytes. -/
theorem witness_IdleOpcodeSendsThePendingAlert :
    (base.setMailbox ⟨true, ⟨0⟩⟩).host.run = .running ∧ (base.setMailbox ⟨true, ⟨0⟩⟩).host.phase = .polling ∧
    (base.setMailbox ⟨true, ⟨0⟩⟩).host.mailbox.pending = true ∧
    nextAnswer (base.setMailbox ⟨true, ⟨0⟩⟩) = .ok ∧
    ((failing 0).setMailbox ⟨true, ⟨0⟩⟩).host.run = .running ∧
    ((failing 0).setMailbox ⟨true, ⟨0⟩⟩).host.phase = .polling ∧
    nextAnswer ((failing 0).setMailbox ⟨true, ⟨0⟩⟩) = .failed 0 ∧
    ((failing 73).setMailbox ⟨true, ⟨0⟩⟩).host.mailbox.pending = true ∧
    nextAnswer ((failing 73).setMailbox ⟨true, ⟨0⟩⟩) = .failed 73 ∧ 73 < 74 :=
  ⟨rfl, rfl, rfl, rfl, rfl, rfl, rfl, rfl, rfl, by decide⟩
/-- `SEND` LF, an empty line, and the start of another line; and no line at all. -/
theorem witness_HostPollRunsTheLastLine :
    (base.setRxBuf .host (bytesSend ++ [0x0A#8, 0x46#8])).host.run = .running ∧
    (base.setRxBuf .host (bytesSend ++ [0x0A#8, 0x46#8])).host.phase = .polling ∧
    (base.setRxBuf .host (bytesSend ++ [0x0A#8, 0x46#8])).host.rxBuf = joinLines [lineSend, []] ++ [0x46#8] ∧
    (∀ l ∈ [lineSend, []], LF ∉ l) ∧ LF ∉ [0x46#8] ∧ base.host.rxBuf = joinLines [] ++ [] :=
  ⟨rfl, rfl, rfl, by decide, by decide, rfl⟩
/-- During the capture an alert is pending. -/
theorem witness_CommandsOfTheOtherPhaseAreIllegal :
    (capturing.setMailbox ⟨true, ⟨1⟩⟩).host.run = .running ∧ (capturing.setMailbox ⟨true, ⟨1⟩⟩).host.phase = .capture ∧
    capturing.host.run = .running ∧ capturing.host.phase = .capture ∧
    base.host.run = .running ∧ base.host.phase = .polling := ⟨rfl, rfl, rfl, rfl, rfl, rfl⟩
/-- A capture with a write that succeeds, and with writes that fail after 0 and after 73 bytes. -/
theorem witness_CaptureDoneSendsOneFrame :
    capturing.host.run = .running ∧ capturing.host.phase = .capture ∧ nextAnswer capturing = .ok ∧
    nextAnswer ((failing 0).setHostPhase .capture) = .failed 0 ∧
    nextAnswer ((failing 73).setHostPhase .capture) = .failed 73 ∧ 73 < 74 := ⟨rfl, rfl, rfl, rfl, rfl, by decide⟩
theorem witness_ControlLinesRunTheirOpcode :
    base.host.run = .running ∧ base.host.phase = .polling ∧
    capturing.host.run = .running ∧ capturing.host.phase = .capture := ⟨rfl, rfl, rfl, rfl⟩
/-- Two frames and the start of a line; and an empty buffer. -/
theorem witness_DuPollRunsItsPartsInOrder :
    (base.setRxBuf .du (joinLines [lineO1, lineA2] ++ [0x30#8])).du.run = .running ∧
    (base.setRxBuf .du (joinLines [lineO1, lineA2] ++ [0x30#8])).du.rxBuf = joinLines [lineO1, lineA2] ++ [0x30#8] ∧
    (∀ l ∈ [lineO1, lineA2], LF ∉ l) ∧ LF ∉ [0x30#8] ∧ base.du.rxBuf = joinLines [] ++ [] :=
  ⟨rfl, rfl, by decide, by decide, rfl⟩
/-- At 499 the tick is not yet due. -/
theorem witness_QuietDuPollChangesOnlyTheChannels :
    base.du.run = .running ∧ base.cfg.settleScope = .perChannel ∧ (∀ i, ¬ SettleWindowOpen i (base.clock 499) base) ∧
    LF ∉ base.du.rxBuf ∧ elapsed base.cfg (base.clock 499) base.du.tickLastFire < base.cfg.tickInterval := by
  refine ⟨rfl, rfl, fun i => ?_, by decide, by decide⟩
  cases i <;> unfold SettleWindowOpen <;> decide
theorem witness_DecodeOfEncodeIsIdentity :
    (Instr.poll 2#2 false 600).wellFormed = true ∧ (Instr.frameAlert gGD).wellFormed = true := ⟨rfl, rfl⟩
theorem witness_LegalCommandWordsAreDetermined :
    decode (.command .du 0x8800#16 { now := 5 }) = .ok (.poll 2#2 false 5) := rfl
/-- The shortest and the longest damaged lines of each kind. -/
theorem witness_DamagedLinesAreNotInstructions :
    1 ≤ 4 ∧ 4 ≤ lineSend.length ∧ 5 ≤ lineFalse.length ∧ lineSend ∈ [lineSend, lineTrue, lineFalse] ∧ 1 ≤ 73 :=
  ⟨by decide, by decide, by decide, by decide, by decide⟩
theorem witness_StepRunsTheDecodedInstruction :
    (atPort (.command .du 0x7100#16 {})).env.schedule = .present (.command .du 0x7100#16 {}) :: [] ∧
    decode (.command .du 0x7100#16 {}) = .ok (.advance true) ∧ (Presented.command .du 0x7100#16 {}).unit = .du ∧
    (atPort (.opcode 2#2 {})).env.schedule = .present (.opcode 2#2 {}) :: [] ∧
    decode (.opcode 2#2 {}) = .ok (.opGrade2 0) ∧ (Presented.opcode 2#2 {}).unit = .host ∧
    (base.setEnv { base.env with schedule := [.link .dh none] }).env.schedule = .link .dh none :: [] :=
  ⟨rfl, rfl, rfl, rfl, rfl, rfl, rfl⟩
/-- Nothing is fixed at reset. -/
theorem witness_StepWithoutScheduleRunsALoop :
    State.reset.env.schedule = [] ∧ capturing.env.schedule = [] := ⟨rfl, rfl⟩
/-- Illegal words and lines at both ports, of a running and of a FATAL unit, the host in both phases. -/
theorem witness_NonInstructionsHaveTheirEffect :
    (atPort (.command .du 0x8C00#16 {})).env.schedule = .present (.command .du 0x8C00#16 {}) :: [] ∧
    decode (.command .du 0x8C00#16 {}) = .error .channelThree ∧
    (atPort (.command .du 0x8C00#16 {})).du.run = .running ∧
    (atPort (.command .host 0x7100#16 {})).env.schedule = .present (.command .host 0x7100#16 {}) :: [] ∧
    decode (.command .host 0x7100#16 {}) = .error .otherUnit ∧
    (atPort (.command .host 0x7100#16 {})).host.run = .running ∧
    (atPort (.line .du [] {})).env.schedule = .present (.line .du [] {}) :: [] ∧
    decode (.line .du [] {}) = .error (.malformedFrame .length) ∧ (atPort (.line .du [] {})).du.run = .running ∧
    (atPort (.line .host [] {})).env.schedule = .present (.line .host [] {}) :: [] ∧
    decode (.line .host [] {}) = .error .notAControlLine ∧ (atPort (.line .host [] {})).host.run = .running ∧
    (atPort (.line .host [] {})).host.phase = .polling ∧
    ((atPort (.line .host [] {})).setHostPhase .capture).host.phase = .capture ∧
    ((atPort (.line .host [] {})).setRun .host .fatal).runOf (Presented.line .host [] {}).unit = .fatal ∧
    ((atPort (.line .du [] {})).setRun .du .fatal).runOf (Presented.line .du [] {}).unit = .fatal :=
  ⟨rfl, rfl, rfl, rfl, rfl, rfl, rfl, rfl, rfl, rfl, rfl, rfl, rfl, rfl, rfl, rfl⟩

/-- A full FIFO of depth 1, a Pressed channel in its window with its pulse, the last times of 32 bits, the last
label of its type, and all status bits. -/
def busy : State :=
  { base with
    cfg := { vectorParams with fifoDepth := .bounded 1 }
    du := { base.du with
      fifo := [gA], ch := { base.du.ch with send := { pressedAt1000 with settleStart := 2 ^ 32 - 1 } }
      pulse := ⟨true, false, false⟩, tickLastFire := 2 ^ 32 - 1, status := 0x0F#8, trace := [.buzz] }
    host := { base.host with mailbox := ⟨true, ⟨2⟩⟩, idleStart := 2 ^ 32 - 1, status := 0x07#8, trace := [.captureStart] } }
/-- `busy` keeps the invariant, at the bounds of its clauses. -/
theorem witness_StepKeepsTheInvariant : StateOk busy where
  fifo_bounded := ⟨by decide, by decide⟩
  settle_in_range := by intro i; cases i <;> decide
  gsettle_in_range := by decide
  tick_in_range := by decide
  idle_in_range := by decide
  label_in_type := (by decide : 2 ≤ 2)
  du_reserved_zero := by decide
  host_reserved_zero := by decide
  pressed_iff_raw_active := by intro i; cases i <;> decide
  pulse_pressed := by intro i; cases i <;> decide
  settling_pressed := by intro i; cases i <;> decide
  unused_scope := rfl
/-- `busy` with an alert to insert next: the step has a next state. -/
theorem witness_step_of_busy :
    ∃ t, step (busy.setEnv { busy.env with schedule := [.present (.line .du lineA {})] }) = .next t := ⟨_, rfl⟩
theorem witness_StepKeepsTheEventDiscipline : TracesOk busy where
  du_events := by intro e he; simp only [busy, List.mem_singleton] at he; subst he; exact trivial
  host_events := by intro e he; simp only [busy, List.mem_singleton] at he; subst he; exact trivial
theorem witness_StepKeepsTracesAndParameters : ∃ t, step (atPort (.command .du 0xF000#16 {})) = .next t := ⟨_, rfl⟩
theorem witness_StatusBitsAreSticky :
    (∃ t, exec (.rxFrame []) busy = .next t) ∧ (∀ u now ok, (Instr.rxFrame []) ≠ .reset u now ok) :=
  ⟨⟨_, rfl⟩, by simp⟩
theorem witness_UnitsShareNoState :
    (∃ t, exec (.poll 0#2 false 5) base = .next t) ∧ (encode (.poll 0#2 false 5)).unit = .du ∧
    (∃ t, exec (.captureDone false [] 5) capturing = .next t) ∧ (encode (.captureDone false [] 5)).unit = .host ∧
    capturing.host ≠ base.host ∧ busy.du ≠ base.du :=
  ⟨⟨_, rfl⟩, rfl, ⟨_, rfl⟩, rfl, by decide, by decide⟩
theorem witness_ModeAndGradeHaveFewWriters :
    (∃ t, exec (.poll 2#2 false 5) base = .next t) ∧ (∀ p now, (Instr.poll 2#2 false 5) ≠ .poll 1#2 p now) ∧
    (∃ t, exec (.opSend 5) base = .next t) ∧ (∀ now, (Instr.opSend 5) ≠ .opGrade2 now) :=
  ⟨⟨_, rfl⟩, by simp, ⟨_, rfl⟩, by simp⟩
theorem witness_FifoEntriesStay :
    (∃ t, exec (.pushFront gA) (withFifo 1 [gO1]) = .next t) ∧ (Instr.pushFront gA) ≠ .advance true ∧
    (∀ now pins, (Instr.pushFront gA) ≠ .duPoll now pins) ∧ (∀ now ok, (Instr.pushFront gA) ≠ .reset .du now ok) :=
  ⟨⟨_, rfl⟩, by simp, by simp, by simp⟩
theorem witness_LabelIsNotReadWithoutAPendingAlert : base.host.mailbox.pending = false := rfl
theorem witness_LinkStepMovesOneByte :
    (base.setLink .hd [0x30#8]).du.run = .running ∧ (base.setLink .hd [0x30#8]).linkHD = 0x30#8 :: [] ∧
    (base.setLink .dh [0x53#8, 0x45#8]).host.run = .running ∧
    (base.setLink .dh [0x53#8, 0x45#8]).linkDH = 0x53#8 :: [0x45#8] := ⟨rfl, rfl, rfl, rfl⟩
/-- A whole frame with one byte after it; and no byte at all. -/
theorem witness_LinkDeliversInOrder :
    base.cfg.linkCorruption = .none ∧ (List.replicate 74 (some 0xFF#8)).length = (lineA2 ++ [0x0A#8]).length ∧
    (base.setLink .hd (lineA2 ++ [0x0A#8, 0x31#8])).du.run = .running ∧
    (base.setLink .hd (lineA2 ++ [0x0A#8, 0x31#8])).linkHD = (lineA2 ++ [0x0A#8]) ++ [0x31#8] ∧
    ([none, none, none, none, none] : List (Option Byte)).length = bytesSend.length ∧
    (base.setLink .dh (bytesSend ++ [0x54#8])).host.run = .running ∧
    (base.setLink .dh (bytesSend ++ [0x54#8])).linkDH = bytesSend ++ [0x54#8] ∧
    base.linkDH = [] ++ [] := ⟨rfl, rfl, rfl, by simp [State.setLink], rfl, rfl, rfl, rfl⟩
theorem witness_RxDrainSplitsAtEveryLF :
    (∀ l ∈ [[0x78#8], []], LF ∉ l) ∧ LF ∉ [0x79#8] ∧
    (base.setRxBuf .du [0x78#8, 0x0A#8, 0x0A#8, 0x79#8]).du.rxBuf = joinLines [[0x78#8], []] ++ [0x79#8] ∧
    (base.setRxBuf .host [0x79#8]).host.rxBuf = joinLines [] ++ [0x79#8] := ⟨by decide, by decide, rfl, rfl⟩
/-- The FIFO has one free place, the NEXT pin is inactive and the other two are active. -/
theorem witness_CapturedTextReachesTheFifo :
    ((withFifo 2 [gA]).setHostPhase .capture).host.run = .running ∧
    ((withFifo 2 [gA]).setHostPhase .capture).host.phase = .capture ∧
    nextAnswer ((withFifo 2 [gA]).setHostPhase .capture) = .ok ∧
    ((withFifo 2 [gA]).setHostPhase .capture).du.run = .running ∧
    ((withFifo 2 [gA]).setHostPhase .capture).cfg.linkCorruption = .none ∧
    ((withFifo 2 [gA]).setHostPhase .capture).linkHD = [] ∧
    ((withFifo 2 [gA]).setHostPhase .capture).du.rxBuf = [] ∧
    FifoHasRoom ((withFifo 2 [gA]).setHostPhase .capture) ∧
    (List.replicate 74 (none : Option Byte)).length = 74 ∧ (0b100#3).getLsbD 2 = true :=
  ⟨rfl, rfl, rfl, rfl, rfl, rfl, rfl, .inr ⟨2, rfl, by decide⟩, rfl, rfl⟩

end Sys2Proof.Tests
end

section
/-!
PROOFS, family 20_memory. The link: what one LINK step does (R65, R66).
-/

namespace Sys2Proof.Machine

/-! The delivered byte, one equation per kind of link and choice of ENV. -/

@[simp] theorem deliveredByte_of_none {s : State} (h : s.cfg.linkCorruption = .none) (b : Byte) (noise : Option Byte) :
    deliveredByte s b noise = b := by simp [deliveredByte, h]

@[simp] theorem deliveredByte_of_any {s : State} (h : s.cfg.linkCorruption = .any) (b : Byte) (noise : Option Byte) :
    deliveredByte s b noise = noise.getD b := by simp [deliveredByte, h]

/-- With something to move and a running receiver, a LINK step is never the step that changes nothing. -/
theorem linkStep_of_running_cons {l : Link} {b : Byte} {q : List Byte} {s : State}
    (hrun : s.runOf (receiver l) = .running) (hq : s.linkOf l = b :: q) (noise : Option Byte) :
    linkStep l noise s =
      (s.setLink l q).setRxBuf (receiver l) (s.rxBufOf (receiver l) ++ [deliveredByte s b noise]) := by
  simp [linkStep, hrun, hq]

/-- Settles O57: the statement's byte is the model's delivered byte, whatever the link and ENV's choice are; then each link
is the LINK step's one law at its own receiver (R65, R66). -/
theorem linkStepMovesOneByte : Obligations.LinkStepMovesOneByte := by
  unfold Obligations.LinkStepMovesOneByte
  intro b q noise s b'
  have hb : deliveredByte s b noise = b' := by
    cases hc : s.cfg.linkCorruption with
    | none => simp [b', hc]
    | any => cases noise <;> simp [b', hc]
  rw [← hb]
  exact ⟨fun hrun hq => linkStep_of_running_cons (l := .hd) hrun hq noise,
    fun hrun hq => linkStep_of_running_cons (l := .dh) hrun hq noise⟩

/-! The case LINK_CORRUPTION = ANY, which the statement's own witness leaves out. -/

/-- The machine after power-on with a corrupting link and one byte on its way to the DU. -/
def corruptingLink : State :=
  { State.reset with cfg := { State.reset.cfg with linkCorruption := .any }, linkHD := [0x30#8] }

/-- ENV's byte arrives in place of the byte sent. -/
theorem witness_linkStep_corrupted :
    linkStep .hd (some 0xFF#8) corruptingLink =
      { corruptingLink with linkHD := [], du := { corruptingLink.du with rxBuf := [0xFF#8] } } :=
  (linkStepMovesOneByte 0x30#8 [] (some 0xFF#8) corruptingLink).1 rfl rfl

end Sys2Proof.Machine
end

section
/-!
PROOFS, family 30_encoding. What a command word decodes to, one equation for each operation at every value of its fields;
the example words of R95 are instances of them.
-/

namespace Sys2Proof.Machine

/-- The decoder's tests on a command word at a unit's port (R93); its data ports play no part in them. -/
def legalWord (u : UnitId) (cw : BitVec 16) : Bool :=
  cw &&& 0x003F#16 == 0#16 && cw &&& 0x0FC0#16 &&& ~~~(fieldMask (cwOp cw)) == 0#16 && accepts u (cwOp cw) &&
    !(cwOp cw == 0x8 && cwCh cw == 3#2)

/-- A legal command word decodes to the instruction its fields and data ports spell, whatever the data ports hold. -/
theorem decode_command_of_legal {u : UnitId} {cw : BitVec 16} (h : legalWord u cw = true) (d : Inputs) :
    decode (.command u cw d) = .ok (commandInstr u cw d) := by
  simp only [legalWord, Bool.and_eq_true, beq_iff_eq, Bool.not_eq_true', Bool.and_eq_false_imp, beq_eq_false_iff_ne]
    at h
  obtain ⟨⟨⟨hreserved, hunused⟩, haccepted⟩, hchannel⟩ := h
  simpa [decode, decodeCommand, hreserved, hunused, haccepted] using hchannel

/-! One equation for each operation of R95, at the encoder's word for it. The single-bit fields are decided by cases. -/

theorem decode_encodeWord (u : UnitId) (hdr : Bool) (d : Inputs) :
    decode (.command u (0x1000#16 ||| bitField 7 hdr) d) = .ok (.encode u hdr d.grid) := by
  rw [decode_command_of_legal (by cases u <;> cases hdr <;> rfl)]
  cases hdr <;> rfl

theorem decode_advanceWord (consume : Bool) (d : Inputs) :
    decode (.command .du (0x7000#16 ||| bitField 8 consume) d) = .ok (.advance consume) := by
  rw [decode_command_of_legal (by revert consume; decide)]
  cases consume <;> rfl

/-- The command word of POLL, as the encoder writes it. -/
def pollWord (ch : BitVec 2) (pin : Bool) : BitVec 16 := 0x8000#16 ||| ch.setWidth 16 <<< 10 ||| bitField 9 pin

theorem encode_poll (ch : BitVec 2) (pin : Bool) (now : Time) :
    encode (.poll ch pin now) = .command .du (pollWord ch pin) { now := now } := rfl

theorem cwOp_pollWord (ch : BitVec 2) (pin : Bool) : cwOp (pollWord ch pin) = 0x8 := by revert ch pin; decide
theorem cwCh_pollWord (ch : BitVec 2) (pin : Bool) : cwCh (pollWord ch pin) = ch := by revert ch pin; decide
theorem cwPin_pollWord (ch : BitVec 2) (pin : Bool) : cwPin (pollWord ch pin) = pin := by revert ch pin; decide

/-- The word of a POLL is legal at the DU's port for every channel number but 3 (R93). -/
theorem legalWord_pollWord {ch : BitVec 2} (hch : ch ≠ 3#2) (pin : Bool) : legalWord .du (pollWord ch pin) = true := by
  revert ch pin; decide

theorem decode_pollWord {ch : BitVec 2} (hch : ch ≠ 3#2) (pin : Bool) (d : Inputs) :
    decode (.command .du (pollWord ch pin) d) = .ok (.poll ch pin d.now) := by
  rw [decode_command_of_legal (legalWord_pollWord hch pin)]
  simp only [commandInstr, cwOp_pollWord, cwCh_pollWord, cwPin_pollWord]

theorem decode_hostPollWord (d : Inputs) : decode (.command .host 0xB000#16 d) = .ok (.hostPoll d.now) :=
  decode_command_of_legal (by decide) d

theorem decode_captureDoneWord (err : Bool) (d : Inputs) :
    decode (.command .host (0xC000#16 ||| bitField 6 err) d) = .ok (.captureDone err d.cells d.now) := by
  rw [decode_command_of_legal (by revert err; decide)]
  cases err <;> rfl

theorem decode_duPollWord (d : Inputs) : decode (.command .du 0xD000#16 d) = .ok (.duPoll d.now d.pins) :=
  decode_command_of_legal (by decide) d

theorem decode_resetWord (u : UnitId) (d : Inputs) :
    decode (.command u 0xF000#16 d) = .ok (.reset u d.now d.openOk) :=
  decode_command_of_legal (by cases u <;> rfl) d

/-! The four opcodes (R86). -/

theorem decode_opcode_idle (d : Inputs) : decode (.opcode 0#2 d) = .ok (.opIdle d.now) := rfl
theorem decode_opcode_send (d : Inputs) : decode (.opcode 1#2 d) = .ok (.opSend d.now) := rfl
theorem decode_opcode_grade2 (d : Inputs) : decode (.opcode 2#2 d) = .ok (.opGrade2 d.now) := rfl
theorem decode_opcode_grade1 (d : Inputs) : decode (.opcode 3#2 d) = .ok (.opGrade1 d.now) := rfl

/-- Settles O42: each example word of R95 is its operation's word at the example's field values, so it decodes by that
operation's equation; the opcodes are R86's table. -/
theorem exampleWordsDecode : Obligations.ExampleWordsDecode := by
  unfold Obligations.ExampleWordsDecode
  intro d
  exact ⟨decode_pollWord (ch := 1#2) (by decide) false d, decode_pollWord (ch := 1#2) (by decide) true d,
    decode_pollWord (ch := 0#2) (by decide) false d, decode_pollWord (ch := 2#2) (by decide) false d,
    decode_advanceWord true d, decode_advanceWord false d,
    decode_encodeWord .host true d, decode_encodeWord .host false d,
    decode_captureDoneWord true d, decode_hostPollWord d, decode_duPollWord d, decode_resetWord .du d,
    decode_opcode_idle d, decode_opcode_send d, decode_opcode_grade2 d, decode_opcode_grade1 d⟩

end Sys2Proof.Machine
end

section
/-!
PROOFS, family 40_frame_codec. The codec as one correspondence: a line is valid exactly when it is `frameLine h g` for some
header and Grid, and DECODE takes `frameLine h g` back to `(h, g)`. What ENCODE, DECODE and RX_FRAME do is read off that.
-/

namespace Sys2Proof.Machine

/-! One cell: the gathers by PERM and INV (R110, R111). -/

theorem reorder_bit (d : Cell) {k : Nat} (hk : k < 6) : (reorder d).bit k = d.dot (PERM.getD k 0) := by
  interval_cases k <;> rfl

theorem restore_dot (t : SentCell) {j : Nat} (hj : j < 6) : (restore t).dot j = t.bit (INV.getD j 0) := by
  interval_cases j <;> rfl

@[simp] theorem restore_reorder (d : Cell) : restore (reorder d) = d := rfl

@[simp] theorem reorder_restore (t : SentCell) : reorder (restore t) = t := rfl

theorem INV_getD_lt {j : Nat} (hj : j < 6) : INV.getD j 0 < 6 := by interval_cases j <;> decide

theorem PERM_getD_INV_getD {j : Nat} (hj : j < 6) : PERM.getD (INV.getD j 0) 0 = j := by interval_cases j <;> rfl

/-- Settles O2: the two gathers are the definitions element by element, and PERM and INV are inverse lists. -/
theorem reorderAndRestoreAreInverse : Obligations.ReorderAndRestoreAreInverse := by
  unfold Obligations.ReorderAndRestoreAreInverse
  exact ⟨rfl, rfl, fun d t =>
    ⟨fun _ hk => reorder_bit d hk, fun _ hj => restore_dot t hj, restore_reorder d, reorder_restore t⟩⟩

/-! PAYLOAD and UNPAYLOAD (R112): bit `6c + k` of a payload, and each undoes the other. -/

theorem SentCell.bits_getElem? (t : SentCell) {k : Nat} (hk : k < 6) : t.bits[k]? = some (t.bit k) := by
  interval_cases k <;> rfl

theorem flatMap_bits_getElem? (cs : List Cell) {c k : Nat} (hc : c < cs.length) (hk : k < 6) :
    (cs.flatMap fun d => (reorder d).bits)[6 * c + k]? = some ((cs.getD c Cell.zero).dot (PERM.getD k 0)) := by
  induction cs generalizing c with
  | nil => simp at hc
  | cons d ds ih =>
    rw [List.flatMap_cons]
    cases c with
    | zero =>
      rw [List.getElem?_append_left (by simpa using hk), Nat.mul_zero, Nat.zero_add, SentCell.bits_getElem? _ hk,
        reorder_bit d hk]
      rfl
    | succ c =>
      have hskip : 6 * (c + 1) + k - 6 = 6 * c + k := by omega
      rw [List.getElem?_append_right (by simp; omega), SentCell.bits_length, hskip, ih (by simpa using hc)]
      rfl

theorem payload_getElem? (g : Grid) {c k : Nat} (hc : c < 12) (hk : k < 6) :
    (payload g)[6 * c + k]? = some ((g.cell c).dot (PERM.getD k 0)) :=
  flatMap_bits_getElem? g.cells (g.length_eq ▸ hc) hk

theorem unpayload_flatMap_bits (cs : List Cell) : unpayload (cs.flatMap fun d => (reorder d).bits) = cs := by
  induction cs with
  | nil => rfl
  | cons d ds ih => exact congrArg (d :: ·) ih

@[simp] theorem unpayload_payload (g : Grid) : unpayload (payload g) = g.cells := unpayload_flatMap_bits g.cells

theorem flatMap_bits_unpayload {n : Nat} {bs : List Bool} (h : bs.length = 6 * n) :
    ((unpayload bs).flatMap fun d => (reorder d).bits) = bs := by
  induction n generalizing bs with
  | zero => rw [List.eq_nil_of_length_eq_zero h]; rfl
  | succ n ih =>
    match bs, h with
    | t0 :: t1 :: t2 :: t3 :: t4 :: t5 :: rest, h =>
      have hrest : rest.length = 6 * n := by simp only [List.length_cons] at h; omega
      rw [unpayload, List.flatMap_cons, ih hrest]
      rfl
    | [], h | [_], h | [_, _], h | [_, _, _], h | [_, _, _, _], h | [_, _, _, _, _], h =>
      simp only [List.length_cons, List.length_nil] at h
      omega

theorem unpayload_length {n : Nat} {bs : List Bool} (h : bs.length = 6 * n) : (unpayload bs).length = n := by
  have hlen := flatMap_bits_length (unpayload bs)
  rw [flatMap_bits_unpayload h, h] at hlen
  omega

theorem exists_payload_eq {bs : List Bool} (h : bs.length = 72) : ∃ g, payload g = bs :=
  ⟨⟨unpayload bs, unpayload_length (n := 12) h⟩, flatMap_bits_unpayload (n := 12) h⟩

@[simp] theorem normalizeCells_cells (g : Grid) : normalizeCells g.cells = g := by
  obtain ⟨cells, hlen⟩ := g
  simp [normalizeCells, hlen, List.take_of_length_le]

/-! The frame's characters (R80, R82). -/

theorem isBitChar_iff (c : Byte) : isBitChar c = true ↔ c = 0x30#8 ∨ c = 0x31#8 := by simp [isBitChar]

theorem chr_bitOfChr {c : Byte} (h : isBitChar c = true) : chr (bitOfChr c) = c := by
  obtain rfl | rfl := (isBitChar_iff c).mp h <;> rfl

theorem chr_eq_one_iff (b : Bool) : chr b = 0x31#8 ↔ b = true := by cases b <;> decide

theorem frameLine_getElem?_zero (h : Bool) (g : Grid) : (frameLine h g)[0]? = some (chr h) := rfl

theorem frameLine_getElem? (h : Bool) (g : Grid) {c k : Nat} (hc : c < 12) (hk : k < 6) :
    (frameLine h g)[1 + 6 * c + k]? = some (chr ((g.cell c).dot (PERM.getD k 0))) := by
  have hindex : 1 + 6 * c + k = 6 * c + k + 1 := by omega
  rw [hindex, frameLine, List.getElem?_cons_succ, List.getElem?_map, payload_getElem? g hc hk, Option.map_some]

theorem isFrameOf_frameLine (h : Bool) (g : Grid) : IsFrameOf (frameLine h g) h g :=
  ⟨frameLine_length h g, frameLine_getElem?_zero h g, fun _ hc _ hk => frameLine_getElem? h g hc hk⟩

/-- The characters `IsFrameOf` names are all 73 of them, so they determine the line. -/
theorem isFrameOf_iff {l : Line} {h : Bool} {g : Grid} : IsFrameOf l h g ↔ l = frameLine h g := by
  refine ⟨fun ⟨hlen, hhead, hcells⟩ => List.ext_getElem? fun i => ?_, fun hl => hl ▸ isFrameOf_frameLine h g⟩
  rcases Nat.lt_or_ge i 73 with hi | hi
  · cases i with
    | zero => exact hhead
    | succ i =>
      have hindex : i + 1 = 1 + 6 * (i / 6) + i % 6 := by omega
      have hc : i / 6 < 12 := by omega
      have hk : i % 6 < 6 := by omega
      rw [hindex, frameLine_getElem? h g hc hk]
      exact hcells _ hc _ hk
  · rw [List.getElem?_eq_none (hlen ▸ hi), List.getElem?_eq_none (by simpa using hi)]

theorem isBitChar_of_mem_frameLine {h : Bool} {g : Grid} {c : Byte} (hc : c ∈ frameLine h g) : isBitChar c = true := by
  simp only [frameLine, List.mem_cons, List.mem_map] at hc
  obtain rfl | ⟨b, -, rfl⟩ := hc <;> exact isBitChar_chr _

/-- The valid lines are exactly the frames (R116). -/
theorem validFrameLine_iff {l : Line} : ValidFrameLine l ↔ ∃ h g, l = frameLine h g := by
  constructor
  · rintro ⟨hlen, hchars⟩
    obtain ⟨c, cs, rfl⟩ := List.exists_cons_of_length_eq_add_one hlen
    obtain ⟨g, hg⟩ := exists_payload_eq (bs := cs.map bitOfChr) (by simpa using hlen)
    have hbits : ∀ b ∈ c :: cs, chr (bitOfChr b) = b := fun b hb =>
      chr_bitOfChr ((isBitChar_iff b).mpr (hchars b hb))
    have hback : (c :: cs).map (chr ∘ bitOfChr) = c :: cs :=
      (List.map_congr_left (g := id) hbits).trans (List.map_id _)
    refine ⟨bitOfChr c, g, ?_⟩
    rw [frameLine, hg, List.map_map]
    exact hback.symm
  · rintro ⟨h, g, rfl⟩
    exact ⟨frameLine_length h g, fun c hc => (isBitChar_iff c).mp (isBitChar_of_mem_frameLine hc)⟩

/-! DECODE's answer (R115). -/

theorem firstBadChar_eq_findIdx? (l : Line) (n : Nat) :
    firstBadChar l n = (l.findIdx? fun c => !isBitChar c).map (· + n) := by
  induction l generalizing n with
  | nil => rfl
  | cons c cs ih =>
    cases hc : isBitChar c
    · simp [firstBadChar, List.findIdx?_cons, hc]
    · simp [firstBadChar, List.findIdx?_cons, hc, ih, Function.comp_def, Nat.add_assoc, Nat.add_comm 1]

theorem firstBadChar_zero_eq_none_iff (l : Line) : firstBadChar l 0 = none ↔ ∀ c ∈ l, isBitChar c = true := by
  simp [firstBadChar_eq_findIdx?, List.findIdx?_eq_none_iff]

theorem firstBadChar_zero_eq_some {l : Line} {i : Nat} {c : Byte} (hi : l[i]? = some c) (hc : isBitChar c = false)
    (hbefore : ∀ j < i, ∀ b, l[j]? = some b → isBitChar b = true) : firstBadChar l 0 = some i := by
  obtain ⟨hlt, rfl⟩ := List.getElem?_eq_some_iff.mp hi
  have hfind : (l.findIdx? fun c => !isBitChar c) = some i :=
    List.findIdx?_eq_some_iff_getElem.mpr ⟨hlt, by simpa using hc, fun j hj => by
      simpa using hbefore j hj _ (List.getElem?_eq_getElem (hj.trans hlt))⟩
  simp [firstBadChar_eq_findIdx?, hfind]

theorem decodeFrame_of_length_ne {l : Line} (h : l.length ≠ 73) : decodeFrame l = .error .length := if_pos h

theorem decodeFrame_of_firstBadChar {l : Line} {i : Nat} (hlen : l.length = 73) (h : firstBadChar l 0 = some i) :
    decodeFrame l = .error (.charset i) := by
  have hchars : l.length = FRAME_CHARS := hlen
  simp [decodeFrame, hchars, h]

@[simp] theorem decodeFrame_frameLine (h : Bool) (g : Grid) : decodeFrame (frameLine h g) = .ok (h, g) := by
  have hlen : (frameLine h g).length = FRAME_CHARS := frameLine_length h g
  have hgood : firstBadChar (frameLine h g) 0 = none :=
    (firstBadChar_zero_eq_none_iff _).mpr fun _ hc => isBitChar_of_mem_frameLine hc
  have hpayload : (frameLine h g).tail.map bitOfChr = payload g := by simp [frameLine, Function.comp_def]
  have hheader : bitOfChr ((frameLine h g).headD 0x30#8) = h := by simp [frameLine]
  simp only [decodeFrame, hlen, hgood, hpayload, hheader, unpayload_payload, normalizeCells_cells, ne_eq,
    not_true_eq_false, if_false]

theorem exists_decodeFrame_error {l : Line} (h : ¬ ValidFrameLine l) : ∃ r, decodeFrame l = .error r := by
  by_cases hlen : l.length = 73
  · cases hbad : firstBadChar l 0 with
    | some i => exact ⟨_, decodeFrame_of_firstBadChar hlen hbad⟩
    | none =>
      exact absurd ⟨hlen, fun c hc => (isBitChar_iff c).mp ((firstBadChar_zero_eq_none_iff l).mp hbad c hc)⟩ h
  · exact ⟨_, decodeFrame_of_length_ne hlen⟩

theorem decodeFrame_eq_ok_iff {l : Line} {h : Bool} {g : Grid} : decodeFrame l = .ok (h, g) ↔ l = frameLine h g := by
  refine ⟨fun hok => ?_, fun hl => hl ▸ decodeFrame_frameLine h g⟩
  by_cases hvalid : ValidFrameLine l
  · obtain ⟨h', g', rfl⟩ := validFrameLine_iff.mp hvalid
    rw [decodeFrame_frameLine] at hok
    cases hok
    rfl
  · obtain ⟨r, hr⟩ := exists_decodeFrame_error hvalid
    cases hr.symm.trans hok

/-! The commands at a running unit (R113, R114, R115, R117). -/

section Running

variable {u : UnitId} {s : State}

theorem exec_encode_of_running (hrun : s.runOf u = .running) (h : Bool) (g : Grid) :
    exec (.encode u h g) s = .next (driveFrame u h g s) :=
  congrArg Host.Outcome.next (whenRunning_of_running _ hrun)

theorem exec_normalize_of_running (hrun : s.runOf u = .running) (cells : List Cell) :
    exec (.normalize u cells) s = .next (driveNormalized u cells s) :=
  congrArg Host.Outcome.next (whenRunning_of_running _ hrun)

theorem exec_decode_of_running (hrun : s.runOf u = .running) (l : Line) :
    exec (.decode u l) s = .next (driveDecoded u l s) :=
  congrArg Host.Outcome.next (whenRunning_of_running _ hrun)

theorem exec_rxFrame_of_running (hrun : s.du.run = .running) (l : Line) : exec (.rxFrame l) s = .next (rxFrame l s) :=
  congrArg Host.Outcome.next (whenRunning_of_running (u := .du) _ hrun)

theorem exec_pushBack_of_running (hrun : s.du.run = .running) (g : Grid) :
    exec (.pushBack g) s = .next (pushBack g s) :=
  congrArg Host.Outcome.next (whenRunning_of_running (u := .du) _ hrun)

theorem exec_pushFront_of_running (hrun : s.du.run = .running) (g : Grid) :
    exec (.pushFront g) s = .next (pushFront g s) :=
  congrArg Host.Outcome.next (whenRunning_of_running (u := .du) _ hrun)

end Running

/-- Settles O3: the line is the model's own frame; each unit drives it with its LF. -/
theorem encodeDrivesTheFrame : Obligations.EncodeDrivesTheFrame := by
  unfold Obligations.EncodeDrivesTheFrame
  intro h g s
  exact ⟨frameLine h g, isFrameOf_frameLine h g,
    fun hrun => exec_encode_of_running (u := .du) hrun h g, fun hrun => exec_encode_of_running (u := .host) hrun h g⟩

/-- Settles O4: the Grid is `normalizeCells` of the sequence at either unit. -/
theorem normalizeTakesTwelveCells : Obligations.NormalizeTakesTwelveCells := by
  unfold Obligations.NormalizeTakesTwelveCells
  intro cells s
  exact ⟨normalizeCells cells, rfl,
    fun hrun => exec_normalize_of_running (u := .du) hrun cells,
    fun hrun => exec_normalize_of_running (u := .host) hrun cells⟩

/-! DECODE. -/

theorem driveDecoded_frameLine (u : UnitId) (h : Bool) (g : Grid) (s : State) :
    driveDecoded u (frameLine h g) s =
      s.setOut u { s.outOf u with ok := some true, hdrOut := some h, gridOut := some g } := by
  simp [driveDecoded]

theorem driveDecoded_of_not_valid {l : Line} (hl : ¬ ValidFrameLine l) (u : UnitId) (s : State) :
    driveDecoded u l s =
      s.setOut u { s.outOf u with ok := some false, hdrOut := some false, gridOut := some Grid.zero } := by
  obtain ⟨r, hr⟩ := exists_decodeFrame_error hl
  simp [driveDecoded, hr]

/-- Dot `j` of cell `c` travels as payload character `6c + INV[j]` (R111, R115). -/
theorem dot_eq_decide_frameLine (h : Bool) (g : Grid) {c j : Nat} (hc : c < 12) (hj : j < 6) :
    (g.cell c).dot j = decide ((frameLine h g)[1 + 6 * c + INV.getD j 0]? = some 0x31#8) := by
  rw [frameLine_getElem? h g hc (INV_getD_lt hj), PERM_getD_INV_getD hj]
  simp [chr_eq_one_iff]

theorem header_eq_decide_frameLine (h : Bool) (g : Grid) : h = decide ((frameLine h g)[0]? = some 0x31#8) := by
  rw [frameLine_getElem?_zero]
  simp [chr_eq_one_iff]

/-- Settles O5: a valid line is the frame of some header and Grid, whose dots are then characters of the line; any other line
has an error for its answer, and the reason is the length or the first bad character. -/
theorem decodeReportsOneLine : Obligations.DecodeReportsOneLine := by
  unfold Obligations.DecodeReportsOneLine
  intro l s
  refine ⟨fun hvalid => ?valid, fun hinvalid => ⟨fun hrun => ?atDu, fun hrun => ?atHost⟩, decodeFrame_of_length_ne,
    fun i c hlen hi h0 h1 hbefore => ?badChar⟩
  case valid =>
    obtain ⟨h, g, rfl⟩ := validFrameLine_iff.mp hvalid
    refine ⟨g, fun c hc j hj => dot_eq_decide_frameLine h g hc hj, fun hrun => ?_, fun hrun => ?_⟩
    all_goals rw [← header_eq_decide_frameLine]
    · rw [exec_decode_of_running (u := .du) hrun, driveDecoded_frameLine]; rfl
    · rw [exec_decode_of_running (u := .host) hrun, driveDecoded_frameLine]; rfl
  case atDu => rw [exec_decode_of_running (u := .du) hrun, driveDecoded_of_not_valid hinvalid]; rfl
  case atHost => rw [exec_decode_of_running (u := .host) hrun, driveDecoded_of_not_valid hinvalid]; rfl
  case badChar =>
    have hc : isBitChar c = false := by simp [isBitChar, h0, h1]
    refine decodeFrame_of_firstBadChar hlen (firstBadChar_zero_eq_some hi hc fun j hj b hb => ?_)
    simpa [isBitChar_iff, hb] using hbefore j hj

/-! RX_FRAME: its three ways, and what a push does with room (R117, R170). -/

theorem hasRoom_iff (s : State) : hasRoom s = true ↔ FifoHasRoom s := by
  cases h : s.cfg.fifoDepth <;> simp [hasRoom, FifoHasRoom, h]

theorem pushBack_of_room {s : State} (h : FifoHasRoom s) (g : Grid) :
    pushBack g s = { s with du := { s.du with fifo := s.du.fifo ++ [g] } } :=
  if_pos ((hasRoom_iff s).mpr h)

theorem pushFront_of_room {s : State} (h : FifoHasRoom s) (g : Grid) :
    pushFront g s = { s with du := { s.du with fifo := g :: s.du.fifo } } :=
  if_pos ((hasRoom_iff s).mpr h)

theorem rxFrame_of_not_valid {l : Line} (hl : ¬ ValidFrameLine l) (s : State) :
    rxFrame l s = { s with du := { s.du with
      status := s.du.status ||| DU_MALF
      trace := s.du.trace ++ [.logMalformed l, .error .malformedFrame] } } := by
  obtain ⟨-, -, hrx⟩ | ⟨g, hg, -⟩ | ⟨g, hg, -⟩ := rxFrame_cases l s
  · exact hrx
  · exact absurd (validFrameLine_iff.mpr ⟨true, g, decodeFrame_eq_ok_iff.mp hg⟩) hl
  · exact absurd (validFrameLine_iff.mpr ⟨false, g, decodeFrame_eq_ok_iff.mp hg⟩) hl

theorem rxFrame_ordinary (g : Grid) (s : State) : rxFrame (frameLine false g) s = pushBack g s := by simp [rxFrame]

theorem rxFrame_alert (g : Grid) (s : State) : rxFrame (frameLine true g) s = pushFront g (s.emit .du .buzz) := by
  simp [rxFrame]

/-- Settles O6: a line that is no frame takes the malformed way; a frame takes the way of its header, and the command of that
push runs the same push. -/
theorem rxFrameRoutesOneLine : Obligations.RxFrameRoutesOneLine := by
  unfold Obligations.RxFrameRoutesOneLine
  intro l g s hrun
  rw [exec_rxFrame_of_running hrun l]
  refine ⟨fun hl => ?malformed, fun hl => ?ordinary, fun hl => ?alert⟩
  case malformed => rw [rxFrame_of_not_valid hl]; rfl
  case ordinary =>
    rw [isFrameOf_iff.mp hl, rxFrame_ordinary]
    exact ⟨(exec_pushBack_of_running hrun g).symm, fun hroom => by rw [pushBack_of_room hroom]⟩
  case alert =>
    rw [isFrameOf_iff.mp hl, rxFrame_alert]
    have hbuzzed : (s.emit .du .buzz).du.run = .running := hrun
    exact ⟨(exec_pushFront_of_running hbuzzed g).symm, fun hroom => by
      rw [pushFront_of_room (s := s.emit .du .buzz) hroom]; rfl⟩

end Sys2Proof.Machine
end

section
/-!
PROOFS, family 41_debounce. One press gives one pulse: what a POLL does inside the settle window, at a press and otherwise
(R141 to R144), and from that the pulses of whole runs of POLLs (R148, R149).
-/

namespace Sys2Proof.Machine

/-! The settle window. -/

theorem settleWindowOpen_iff (i : Channel) (t : Time) (s : State) : SettleWindowOpen i t s ↔ windowOpen i t s = true :=
  (windowOpen_iff i t s).symm

theorem windowOpen_congr {s s' : State} (hcfg : s'.cfg = s.cfg) (hch : s'.du.ch = s.du.ch)
    (hgsettle : s'.du.gsettle = s.du.gsettle) (i : Channel) (t : Time) : windowOpen i t s' = windowOpen i t s := by
  simp only [windowOpen, hcfg, hch, hgsettle]

theorem windowOpen_openWindow_iff (i : Channel) (t t0 : Time) (s : State) :
    windowOpen i t (openWindow i t0 s) = true ↔ elapsed s.cfg t t0 < s.cfg.settleTime := by
  cases hscope : s.cfg.settleScope <;> simp [windowOpen, openWindow, hscope]

/-! What the small steps of a POLL leave unchanged. -/

@[simp] theorem closeWindow_du_run (i : Channel) (s : State) : (closeWindow i s).du.run = s.du.run := by
  unfold closeWindow; split <;> rfl
@[simp] theorem closeWindow_du_pulse (i : Channel) (s : State) : (closeWindow i s).du.pulse = s.du.pulse := by
  unfold closeWindow; split <;> rfl
@[simp] theorem closeWindow_cfg (i : Channel) (s : State) : (closeWindow i s).cfg = s.cfg := by
  unfold closeWindow; split <;> rfl
@[simp] theorem closeWindow_phase (i : Channel) (s : State) :
    ((closeWindow i s).du.ch.get i).phase = (s.du.ch.get i).phase := by
  unfold closeWindow; split <;> simp

@[simp] theorem openWindow_du_run (i : Channel) (t : Time) (s : State) : (openWindow i t s).du.run = s.du.run := by
  unfold openWindow; split <;> rfl
@[simp] theorem openWindow_du_pulse (i : Channel) (t : Time) (s : State) :
    (openWindow i t s).du.pulse = s.du.pulse := by
  unfold openWindow; split <;> rfl
@[simp] theorem openWindow_cfg (i : Channel) (t : Time) (s : State) : (openWindow i t s).cfg = s.cfg := by
  unfold openWindow; split <;> rfl
@[simp] theorem openWindow_phase (i : Channel) (t : Time) (s : State) :
    ((openWindow i t s).du.ch.get i).phase = (s.du.ch.get i).phase := by
  unfold openWindow; split <;> simp

@[simp] theorem setRaw_du_run (i : Channel) (p : Bool) (s : State) : (setRaw i p s).du.run = s.du.run := rfl
@[simp] theorem setRaw_du_pulse (i : Channel) (p : Bool) (s : State) : (setRaw i p s).du.pulse = s.du.pulse := rfl
@[simp] theorem setRaw_cfg (i : Channel) (p : Bool) (s : State) : (setRaw i p s).cfg = s.cfg := rfl
@[simp] theorem setRaw_phase (i : Channel) (p : Bool) (s : State) :
    ((setRaw i p s).du.ch.get i).phase = (s.du.ch.get i).phase := by simp [setRaw]

@[simp] theorem setPhase_du_run (i : Channel) (ph : Phase) (s : State) : (setPhase i ph s).du.run = s.du.run := rfl
@[simp] theorem setPhase_du_pulse (i : Channel) (ph : Phase) (s : State) : (setPhase i ph s).du.pulse = s.du.pulse := rfl
@[simp] theorem setPhase_cfg (i : Channel) (ph : Phase) (s : State) : (setPhase i ph s).cfg = s.cfg := rfl
@[simp] theorem setPhase_phase (i : Channel) (ph : Phase) (s : State) : ((setPhase i ph s).du.ch.get i).phase = ph := by
  simp [setPhase]

/-! What a press's effects leave unchanged, whether the control line's write succeeds or fails. -/

theorem txWrite_du_frame (b : List Byte) (s : State) :
    (txWrite .du b s).cfg = s.cfg ∧
      ∃ st tr, (txWrite .du b s).du = { s.du with status := st, trace := tr } := by
  cases h : nextAnswer s with
  | ok => rw [txWrite_du_ok b h]; exact ⟨rfl, _, _, rfl⟩
  | failed n => rw [txWrite_du_failed b h]; exact ⟨rfl, _, _, rfl⟩

theorem controlLine_frame (i : Channel) (s : State) :
    (controlLine i s).cfg = s.cfg ∧
      ∃ st tr, (controlLine i s).du = { s.du with status := st, trace := tr } := by
  cases i with
  | send => exact txWrite_du_frame _ s
  | mode => exact txWrite_du_frame _ s
  | next => exact ⟨rfl, _, _, rfl⟩

/-- A press is its phase, its pulse and its window; beside these the DU changes only its flag, its status and its trace. -/
theorem pressed_frame (i : Channel) (t : Time) (s : State) :
    (pressed i t s).cfg = s.cfg ∧
      ∃ flag st tr, (pressed i t s).du =
        { (openWindow i t ((setPhase i .pressed s).setPulse i true)).du with
          modeFlag := flag, status := st, trace := tr } := by
  generalize hopened : openWindow i t ((setPhase i .pressed s).setPulse i true) = opened
  have hcfg : opened.cfg = s.cfg := by simp [← hopened]
  rw [← hcfg]
  cases i with
  | send =>
    obtain ⟨hcfg', st, tr, hdu⟩ := controlLine_frame .send opened
    simp only [pressed, hopened]
    exact ⟨hcfg', _, st, tr, hdu⟩
  | mode =>
    obtain ⟨hcfg', st, tr, hdu⟩ := controlLine_frame .mode (modeToggle opened)
    simp only [pressed, hopened]
    exact ⟨hcfg', _, st, tr, hdu⟩
  | next =>
    simp only [pressed, hopened]
    exact ⟨rfl, _, _, _, rfl⟩

@[simp] theorem pressed_cfg (i : Channel) (t : Time) (s : State) : (pressed i t s).cfg = s.cfg := (pressed_frame i t s).1

@[simp] theorem pressed_du_run (i : Channel) (t : Time) (s : State) : (pressed i t s).du.run = s.du.run := by
  obtain ⟨-, _, _, _, hdu⟩ := pressed_frame i t s
  simp [hdu]

@[simp] theorem pressed_pulse (i : Channel) (t : Time) (s : State) : (pressed i t s).du.pulse.get i = true := by
  obtain ⟨-, _, _, _, hdu⟩ := pressed_frame i t s
  simp [hdu]

@[simp] theorem pressed_phase (i : Channel) (t : Time) (s : State) :
    ((pressed i t s).du.ch.get i).phase = .pressed := by
  obtain ⟨-, _, _, _, hdu⟩ := pressed_frame i t s
  simp [hdu]

theorem windowOpen_pressed_iff (i : Channel) (t t0 : Time) (s : State) :
    windowOpen i t (pressed i t0 s) = true ↔ elapsed s.cfg t t0 < s.cfg.settleTime := by
  obtain ⟨-, _, _, _, hdu⟩ := pressed_frame i t0 s
  have hopened : windowOpen i t (pressed i t0 s) =
      windowOpen i t (openWindow i t0 ((setPhase i .pressed s).setPulse i true)) :=
    windowOpen_congr (by simp) (by rw [hdu]) (by rw [hdu]) i t
  rw [hopened, windowOpen_openWindow_iff]
  simp

/-! POLL of one channel (R141, R144). -/

@[simp] theorem pollChannel_du_run (i : Channel) (p : Bool) (t : Time) (s : State) :
    (pollChannel i p t s).du.run = s.du.run := by
  cases hw : windowOpen i t s with
  | true => simp [pollChannel_of_open p hw]
  | false => rw [pollChannel_of_closed p hw]; split <;> simp

@[simp] theorem pollChannel_cfg (i : Channel) (p : Bool) (t : Time) (s : State) : (pollChannel i p t s).cfg = s.cfg := by
  cases hw : windowOpen i t s with
  | true => simp [pollChannel_of_open p hw]
  | false => rw [pollChannel_of_closed p hw]; split <;> simp

/-- Only a sampled press gives a pulse: not a Pressed channel, and not an inactive pin. -/
theorem pollChannel_pulse_of_no_press {i : Channel} {p : Bool} {s : State}
    (h : (s.du.ch.get i).phase = .pressed ∨ p = true) (t : Time) : (pollChannel i p t s).du.pulse.get i = false := by
  cases hw : windowOpen i t s with
  | true => simp [pollChannel_of_open p hw]
  | false =>
    rw [pollChannel_of_closed p hw]
    split
    next hphase => simp [hphase] at h
    all_goals simp

theorem pollChannel_phase_of_held {i : Channel} {s : State} (h : (s.du.ch.get i).phase = .pressed) (t : Time) :
    ((pollChannel i false t s).du.ch.get i).phase = .pressed := by
  cases hw : windowOpen i t s with
  | true => simpa [pollChannel_of_open false hw] using h
  | false => simp [pollChannel_of_closed false hw, h]

theorem pollChannel_of_press {i : Channel} {t : Time} {s : State} (hw : windowOpen i t s = false)
    (h : (s.du.ch.get i).phase = .released) :
    pollChannel i false t s = pressed i t (setRaw i false (closeWindow i (s.setPulse i false))) := by
  simp [pollChannel_of_closed false hw, h]

/-! POLL as an instruction at a running DU. -/

theorem channelOfField_field (i : Channel) : channelOfField i.field = some i := by cases i <;> rfl

/-- The state a POLL of channel `i` leads to at a running DU. -/
def polled (i : Channel) (p : Bool) (now : Time) (s : State) : State := drivePulse i (pollChannel i p (s.clock now) s)

theorem exec_poll_of_running {s : State} (hrun : s.du.run = .running) (i : Channel) (p : Bool) (now : Time) :
    exec (.poll i.field p now) s = .next (polled i p now s) := by
  simp [exec, execPoll, whenRunning_of_running (u := .du) _ hrun, channelOfField_field, polled]

@[simp] theorem polled_du_run (i : Channel) (p : Bool) (now : Time) (s : State) :
    (polled i p now s).du.run = s.du.run := pollChannel_du_run i p _ s
@[simp] theorem polled_du_pulse (i : Channel) (p : Bool) (now : Time) (s : State) :
    (polled i p now s).du.pulse = (pollChannel i p (s.clock now) s).du.pulse := rfl
@[simp] theorem polled_du_ch (i : Channel) (p : Bool) (now : Time) (s : State) :
    (polled i p now s).du.ch = (pollChannel i p (s.clock now) s).du.ch := rfl
@[simp] theorem polled_clock (i : Channel) (p : Bool) (now t : Time) (s : State) :
    (polled i p now s).clock t = s.clock t :=
  congrArg (fun cfg : Config.Params => t % 2 ^ cfg.timeWidth) (pollChannel_cfg i p _ s)
@[simp] theorem windowOpen_polled (i : Channel) (p : Bool) (t now : Time) (s : State) :
    windowOpen i t (polled i p now s) = windowOpen i t (pollChannel i p (s.clock now) s) := windowOpen_congr rfl rfl rfl i t

/-! Runs of POLLs. -/

theorem pulsesOf_cons {s : State} (hrun : s.du.run = .running) (i : Channel) (p : Bool) (now : Time)
    (ps : List (Bool × Time)) :
    pulsesOf i ((p, now) :: ps) s = (polled i p now s).du.pulse.get i :: pulsesOf i ps (polled i p now s) := by
  simp [pulsesOf, exec_poll_of_running hrun]

/-- The induction on a run of POLLs: what every POLL of it keeps, none giving a pulse, holds after it, and it gives no
pulse. -/
theorem pulsesOf_append_of_quiet {i : Channel} {Inv : State → Prop} (hrun : ∀ s, Inv s → s.du.run = .running)
    (ps qs : List (Bool × Time))
    (hstep : ∀ b ∈ ps, ∀ s, Inv s → Inv (polled i b.1 b.2 s) ∧ (polled i b.1 b.2 s).du.pulse.get i = false)
    {s : State} (hs : Inv s) :
    ∃ t, Inv t ∧ pulsesOf i (ps ++ qs) s = List.replicate ps.length false ++ pulsesOf i qs t := by
  induction ps generalizing s with
  | nil => exact ⟨s, hs, rfl⟩
  | cons b ps ih =>
    obtain ⟨hkept, hquiet⟩ := hstep b (by simp) s hs
    obtain ⟨t, ht, hrest⟩ := ih (fun c hc => hstep c (by simp [hc])) hkept
    refine ⟨t, ht, ?_⟩
    rw [List.cons_append, pulsesOf_cons (hrun s hs), hquiet, hrest]
    rfl

/-- A running DU whose channel `i` is Pressed. -/
structure Held (i : Channel) (s : State) : Prop where
  running : s.du.run = .running
  phase : (s.du.ch.get i).phase = .pressed

/-- A running DU whose channel `i` is Pressed, with its window open at all the given times. -/
structure HeldInWindow (i : Channel) (times : List Time) (s : State) : Prop extends Held i s where
  windows : ∀ t ∈ times, windowOpen i (s.clock t) s = true

/-- A POLL at one of the given times finds the window open, so it samples nothing, whatever the pin's level (R142). -/
theorem HeldInWindow.polled_inside {i : Channel} {times : List Time} {s : State} (h : HeldInWindow i times s) (p : Bool)
    {now : Time} (hnow : now ∈ times) : HeldInWindow i times (polled i p now s) := by
  have hquiet : pollChannel i p (s.clock now) s = s.setPulse i false := pollChannel_of_open p (h.windows now hnow)
  refine ⟨⟨by simp [h.running], by simpa [hquiet] using h.phase⟩, fun t ht => ?_⟩
  rw [polled_clock, windowOpen_polled, hquiet]
  exact h.windows t ht

theorem Held.polled_active {i : Channel} {s : State} (h : Held i s) (now : Time) : Held i (polled i false now s) :=
  ⟨by simp [h.running], pollChannel_phase_of_held h.phase _⟩

theorem pulsesOf_bounces {i : Channel} {bounces : List (Bool × Time)} {s : State}
    (h : HeldInWindow i (bounces.map Prod.snd) s) (qs : List (Bool × Time)) :
    ∃ t, Held i t ∧ pulsesOf i (bounces ++ qs) s = List.replicate bounces.length false ++ pulsesOf i qs t := by
  obtain ⟨t, ht, hpulses⟩ := pulsesOf_append_of_quiet (i := i) (Inv := HeldInWindow i (bounces.map Prod.snd))
    (fun _ hs => hs.running) bounces qs
    (fun b hb _ hs => ⟨hs.polled_inside b.1 (List.mem_map_of_mem hb), pollChannel_pulse_of_no_press (.inl hs.phase) _⟩) h
  exact ⟨t, ht.toHeld, hpulses⟩

theorem pulsesOf_held {i : Channel} {s : State} (h : Held i s) (held : List Time) (qs : List (Bool × Time)) :
    ∃ t, Held i t ∧
      pulsesOf i (held.map (fun t => (false, t)) ++ qs) s = List.replicate held.length false ++ pulsesOf i qs t := by
  have hactive : ∀ b ∈ held.map (fun t => (false, t)), ∀ s, Held i s →
      Held i (polled i b.1 b.2 s) ∧ (polled i b.1 b.2 s).du.pulse.get i = false := by
    simp only [List.forall_mem_map]
    exact fun now _ s hs => ⟨hs.polled_active now, pollChannel_pulse_of_no_press (.inl hs.phase) _⟩
  simpa using pulsesOf_append_of_quiet (fun _ hs => hs.running) _ qs hactive h

/-- POLLs of an inactive pin never give a pulse, whatever the channel's phase. -/
theorem pulsesOf_released {s : State} (hrun : s.du.run = .running) (i : Channel) (released : List Time) :
    pulsesOf i (released.map fun t => (true, t)) s = List.replicate released.length false := by
  have hinactive : ∀ b ∈ released.map (fun t => (true, t)), ∀ s : State, s.du.run = .running →
      (polled i b.1 b.2 s).du.run = .running ∧ (polled i b.1 b.2 s).du.pulse.get i = false := by
    simp only [List.forall_mem_map]
    exact fun now _ s hs => ⟨by simp [hs], pollChannel_pulse_of_no_press (.inr rfl) _⟩
  obtain ⟨t, -, hpulses⟩ :=
    pulsesOf_append_of_quiet (Inv := fun s => s.du.run = .running) (fun _ hs => hs) _ [] hinactive hrun
  simpa [pulsesOf] using hpulses

/-- A sampled press gives a pulse and opens the window for every time within SETTLE_TIME of it (R141, R144). -/
theorem polled_press {i : Channel} {t0 : Time} {times : List Time} {s : State} (hrun : s.du.run = .running)
    (hclosed : ¬ SettleWindowOpen i (s.clock t0) s) (hphase : (s.du.ch.get i).phase = .released)
    (htimes : ∀ t ∈ times, elapsed s.cfg (s.clock t) (s.clock t0) < s.cfg.settleTime) :
    (polled i false t0 s).du.pulse.get i = true ∧ HeldInWindow i times (polled i false t0 s) := by
  have hpress := pollChannel_of_press (by simpa [settleWindowOpen_iff] using hclosed) hphase
  refine ⟨by simp [hpress], ⟨by simp [hrun], by simp [hpress]⟩, fun t ht => ?_⟩
  rw [polled_clock, windowOpen_polled, hpress, windowOpen_pressed_iff]
  simpa using htimes t ht

/-- Settles O21: the press gives the pulse; the bounces fall in its window; after them the channel stays Pressed while the pin
is held, and an inactive pin never presses. -/
theorem singlePressGivesOnePulse : Obligations.SinglePressGivesOnePulse := by
  unfold Obligations.SinglePressGivesOnePulse
  intro i t0 bounces held released s hrun hclosed hphase hbounces
  obtain ⟨hpulse, hinWindow⟩ := polled_press (times := bounces.map Prod.snd) hrun hclosed hphase
    (by simpa only [List.forall_mem_map] using hbounces)
  obtain ⟨t, ht, hbouncing⟩ := pulsesOf_bounces hinWindow (held.map (fun t => (false, t)) ++ released.map fun t => (true, t))
  obtain ⟨u, hu, hholding⟩ := pulsesOf_held ht held (released.map fun t => (true, t))
  rw [pulsesOf_cons hrun, hpulse, List.append_assoc, hbouncing, hholding, pulsesOf_released hu.running]
  simp only [List.replicate_append_replicate, Nat.add_assoc]

/-- Settles O20: a held button is a press without bounces that is not released. -/
theorem heldButtonGivesOnePulse : Obligations.HeldButtonGivesOnePulse := by
  unfold Obligations.HeldButtonGivesOnePulse
  intro i t0 nows s hrun hclosed hphase
  simpa using singlePressGivesOnePulse i t0 [] nows [] s hrun hclosed hphase (by simp)

end Sys2Proof.Machine
end

section
/-!
PROOFS, family 42_receive_fifo. PEEK and ADVANCE as functions of the FIFO's list (R173, R174), and from these and the pushes
the alert that goes ahead of the ordinary items (R178).
-/

namespace Sys2Proof.Machine

/-! Driving the front: the two result ports by the FIFO's list, and what stays. -/

theorem driveFront_of_cons {s : State} {f : Grid} {fs : List Grid} (h : s.du.fifo = f :: fs) :
    driveFront s = { s with du := { s.du with out := { s.du.out with frontValid := some true, front := some f } } } := by
  simp [driveFront, h, State.setOut]

theorem driveFront_of_nil {s : State} (h : s.du.fifo = []) :
    driveFront s =
      { s with du := { s.du with out := { s.du.out with frontValid := some false, front := some Grid.zero } } } := by
  simp [driveFront, h, State.setOut]

@[simp] theorem driveFront_du_fifo (s : State) : (driveFront s).du.fifo = s.du.fifo := rfl
@[simp] theorem driveFront_du_run (s : State) : (driveFront s).du.run = s.du.run := rfl
@[simp] theorem driveFront_front (s : State) : (driveFront s).du.out.front = some (s.du.fifo.headD Grid.zero) := rfl

@[simp] theorem driveFront_iterate_du_fifo (k : Nat) (s : State) : (driveFront^[k] s).du.fifo = s.du.fifo := by
  induction k with
  | zero => rfl
  | succ k ih => rw [Function.iterate_succ_apply', driveFront_du_fifo, ih]

@[simp] theorem driveFront_iterate_du_run (k : Nat) (s : State) : (driveFront^[k] s).du.run = s.du.run := by
  induction k with
  | zero => rfl
  | succ k ih => rw [Function.iterate_succ_apply', driveFront_du_run, ih]

/-- However often the front is driven, FRONT shows the front as it stood at the beginning. -/
theorem driveFront_iterate_front {k : Nat} (hk : 1 ≤ k) (s : State) :
    (driveFront^[k] s).du.out.front = some (s.du.fifo.headD Grid.zero) := by
  obtain ⟨k, rfl⟩ := Nat.exists_eq_add_of_le' hk
  rw [Function.iterate_succ_apply', driveFront_front, driveFront_iterate_du_fifo]

/-! The pop of ADVANCE. -/

@[simp] theorem advance_false (s : State) : advance false s = s := rfl
@[simp] theorem advance_true (s : State) : advance true s = s.setFifo (s.du.fifo.drop 1) := rfl

theorem advance_of_nil {s : State} (h : s.du.fifo = []) (consume : Bool) : advance consume s = s := by
  obtain ⟨-, hsame⟩ | ⟨-, hpop⟩ := advance_cases consume s
  · exact hsame
  · rw [hpop, h, List.drop_nil, ← h]

/-! The FIFO's commands at a running DU. -/

section Running

variable {s : State}

theorem exec_peek_of_running (hrun : s.du.run = .running) : exec .peek s = .next (driveFront s) :=
  congrArg Host.Outcome.next (whenRunning_of_running (u := .du) _ hrun)

theorem exec_advance_of_running (hrun : s.du.run = .running) (consume : Bool) :
    exec (.advance consume) s = .next (driveFront (advance consume s)) :=
  congrArg Host.Outcome.next (whenRunning_of_running (u := .du) _ hrun)

/-- ADVANCE with CONSUME = 0 equals PEEK in result and effect (R174). -/
theorem exec_advance_false_eq_peek (hrun : s.du.run = .running) : exec (.advance false) s = exec .peek s := by
  rw [exec_advance_of_running hrun, exec_peek_of_running hrun, advance_false]

theorem exec_pushBack_of_room (hrun : s.du.run = .running) (hroom : FifoHasRoom s) (g : Grid) :
    exec (.pushBack g) s = .next (s.setFifo (s.du.fifo ++ [g])) := by
  rw [exec_pushBack_of_running hrun, pushBack_of_room hroom]; rfl

theorem exec_pushFront_of_room (hrun : s.du.run = .running) (hroom : FifoHasRoom s) (g : Grid) :
    exec (.pushFront g) s = .next (s.setFifo (g :: s.du.fifo)) := by
  rw [exec_pushFront_of_running hrun, pushFront_of_room hroom]; rfl

end Running

/-- Settles O10: PEEK is the drive of the front, by the FIFO's two cases. -/
theorem peekShowsTheFront : Obligations.PeekShowsTheFront := by
  unfold Obligations.PeekShowsTheFront
  intro s hrun
  rw [exec_peek_of_running hrun]
  exact ⟨fun f fs hfifo => by rw [driveFront_of_cons hfifo], fun hfifo => by rw [driveFront_of_nil hfifo]⟩

/-- Settles O11: consuming, the front is driven from what the pop leaves; not consuming, ADVANCE is PEEK; an empty FIFO has
nothing to pop. -/
theorem advancePopsOnlyWhenConsuming : Obligations.AdvancePopsOnlyWhenConsuming := by
  unfold Obligations.AdvancePopsOnlyWhenConsuming
  intro s hrun
  refine ⟨fun f g fs hfifo => ?pop, fun f hfifo => ?popLast, fun f fs hfifo => ?keep, fun c hfifo => ?empty⟩
  case pop =>
    have hpopped : (advance true s).du.fifo = g :: fs := by simp [hfifo]
    rw [exec_advance_of_running hrun, driveFront_of_cons hpopped, advance_true, hfifo]
    rfl
  case popLast =>
    have hpopped : (advance true s).du.fifo = [] := by simp [hfifo]
    rw [exec_advance_of_running hrun, driveFront_of_nil hpopped, advance_true, hfifo]
    rfl
  case keep =>
    rw [exec_advance_false_eq_peek hrun]
    exact (peekShowsTheFront s hrun).1 f fs hfifo
  case empty => rw [exec_advance_of_running hrun, advance_of_nil hfifo, driveFront_of_nil hfifo]

/-! Runs of instructions. -/

theorem runInstrs_cons_of_next {i : Instr} {s t : State} (h : exec i s = .next t) (is : List Instr) :
    runInstrs (i :: is) s = runInstrs is t := by
  simp only [runInstrs, h]

theorem runInstrs_advance_false {s : State} (hrun : s.du.run = .running) (k : Nat) :
    runInstrs (List.replicate k (.advance false)) s = .next (driveFront^[k] s) := by
  induction k generalizing s with
  | zero => rfl
  | succ k ih =>
    rw [List.replicate_succ, runInstrs_cons_of_next (exec_advance_of_running hrun false), advance_false,
      ih (s := driveFront s) hrun, Function.iterate_succ_apply]

/-- A FIFO shorter than a number of entries its depth allows has room (R170). -/
theorem fifoHasRoom_of_length_lt {s : State} {m : Nat}
    (hdepth : s.cfg.fifoDepth = .unbounded ∨ ∃ n, s.cfg.fifoDepth = .bounded n ∧ m ≤ n) (hlen : s.du.fifo.length < m) :
    FifoHasRoom s :=
  hdepth.imp_right fun ⟨n, hn, hm⟩ => ⟨n, hn, hlen.trans_le hm⟩

/-- An alert pushed after two ordinary items goes ahead of them, into an empty FIFO with room for three. -/
theorem runInstrs_two_ordinary_then_alert {s : State} (hrun : s.du.run = .running) (hempty : s.du.fifo = [])
    (hdepth : s.cfg.fifoDepth = .unbounded ∨ ∃ n, s.cfg.fifoDepth = .bounded n ∧ 3 ≤ n) (o1 o2 a : Grid) :
    runInstrs [.pushBack o1, .pushBack o2, .pushFront a] s = .next (s.setFifo [a, o1, o2]) := by
  have hroom (q : List Grid) (hq : q.length < 3) : FifoHasRoom (s.setFifo q) := fifoHasRoom_of_length_lt hdepth hq
  have hfirst : exec (.pushBack o1) s = .next (s.setFifo [o1]) := by
    rw [exec_pushBack_of_room hrun (fifoHasRoom_of_length_lt hdepth (by simp [hempty])), hempty]; rfl
  have hsecond : exec (.pushBack o2) (s.setFifo [o1]) = .next (s.setFifo [o1, o2]) :=
    exec_pushBack_of_room (s := s.setFifo [o1]) hrun (hroom [o1] (by simp)) o2
  have halert : exec (.pushFront a) (s.setFifo [o1, o2]) = .next (s.setFifo [a, o1, o2]) :=
    exec_pushFront_of_room (s := s.setFifo [o1, o2]) hrun (hroom [o1, o2] (by simp)) a
  rw [runInstrs_cons_of_next hfirst, runInstrs_cons_of_next hsecond, runInstrs_cons_of_next halert]
  rfl

/-- The entry behind the front is what a consuming ADVANCE returns, and what PEEK then returns. -/
theorem exec_advance_true_then_peek {s : State} (hrun : s.du.run = .running) {f g : Grid} {fs : List Grid}
    (hfifo : s.du.fifo = f :: g :: fs) :
    ∃ t u, exec (.advance true) s = .next t ∧ t.du.out.front = some g ∧
      exec .peek t = .next u ∧ u.du.out.front = some g ∧ u.du.fifo = g :: fs :=
  ⟨driveFront (advance true s), driveFront (driveFront (advance true s)), exec_advance_of_running hrun true,
    by simp [hfifo], exec_peek_of_running (s := driveFront (advance true s)) hrun, by simp [hfifo], by simp [hfifo]⟩

/-- Settles O12: the pushes give `[A, O1, O2]`; ADVANCEs without CONSUME only drive the front, again and again; the consuming
one pops A, and PEEK shows what then stands at the front. -/
theorem alertGoesAheadOfOrdinaryItems : Obligations.AlertGoesAheadOfOrdinaryItems := by
  unfold Obligations.AlertGoesAheadOfOrdinaryItems
  intro o1 o2 a k s hrun hempty hdepth
  have hpushed : (s.setFifo [a, o1, o2]).du.run = .running := hrun
  have hshown : (driveFront^[k] (s.setFifo [a, o1, o2])).du.fifo = [a, o1, o2] := by simp
  obtain ⟨t3, t4, hconsume⟩ := exec_advance_true_then_peek (by simpa using hrun) hshown
  exact ⟨_, _, t3, t4, runInstrs_two_ordinary_then_alert hrun hempty hdepth o1 o2 a, rfl,
    runInstrs_advance_false hpushed k, hshown, fun hk => driveFront_iterate_front hk _, hconsume⟩

end Sys2Proof.Machine
end

section
/-!
PROOFS, family 43_opcode_dispatcher. A receive buffer read as its lines (R243), the opcode of a poll's lines (R200, R201),
and from these HOST_POLL as the rule of one opcode (R209).
-/

namespace Sys2Proof.Machine

/-! Splitting a receive buffer at every LF (R243). -/

theorem splitLines_LF_cons (bs : List Byte) : splitLines (LF :: bs) = ([] :: (splitLines bs).1, (splitLines bs).2) := by
  simp [splitLines]

theorem splitLines_of_not_mem_LF {rest : List Byte} (h : LF ∉ rest) : splitLines rest = ([], rest) := by
  induction rest with
  | nil => rfl
  | cons b bs ih =>
    obtain ⟨hb, hbs⟩ := List.ne_and_not_mem_of_not_mem_cons h
    simp [splitLines, ih hbs, Ne.symm hb]

theorem splitLines_line_append {l : Line} (h : LF ∉ l) (bs : List Byte) :
    splitLines (l ++ LF :: bs) = (l :: (splitLines bs).1, (splitLines bs).2) := by
  induction l with
  | nil => exact splitLines_LF_cons bs
  | cons b l ih =>
    obtain ⟨hb, hl⟩ := List.ne_and_not_mem_of_not_mem_cons h
    simp [splitLines, ih hl, Ne.symm hb]

theorem joinLines_cons_append (l : Line) (ls : List Line) (rest : List Byte) :
    joinLines (l :: ls) ++ rest = l ++ LF :: (joinLines ls ++ rest) := by
  simp [joinLines]

/-- The lines put on the link come back line by line, and the incomplete line stays. -/
theorem splitLines_joinLines_append {lines : List Line} {rest : List Byte} (hlines : ∀ l ∈ lines, LF ∉ l)
    (hrest : LF ∉ rest) : splitLines (joinLines lines ++ rest) = (lines, rest) := by
  induction lines with
  | nil => exact splitLines_of_not_mem_LF hrest
  | cons l ls ih =>
    obtain ⟨hl, hls⟩ := List.forall_mem_cons.mp hlines
    rw [joinLines_cons_append, splitLines_line_append hl, ih hls]

/-! RX_DRAIN is the split, also where RX_CHECK finds no complete line: then there is nothing to take off the buffer. -/

theorem State.setRxBuf_rxBufOf (s : State) (u : UnitId) : s.setRxBuf u (s.rxBufOf u) = s := by cases u <;> rfl

theorem rxCheck_eq_false_iff (u : UnitId) (s : State) : rxCheck u s = false ↔ LF ∉ s.rxBufOf u := by simp [rxCheck]

theorem drainedLines_eq_splitLines (u : UnitId) (s : State) : drainedLines u s = (splitLines (s.rxBufOf u)).1 := by
  cases hcheck : rxCheck u s with
  | true => simp [drainedLines, hcheck]
  | false => simp [drainedLines, hcheck, splitLines_of_not_mem_LF ((rxCheck_eq_false_iff u s).mp hcheck)]

theorem rxDrain_eq_splitLines (u : UnitId) (s : State) : rxDrain u s = s.setRxBuf u (splitLines (s.rxBufOf u)).2 := by
  cases hcheck : rxCheck u s with
  | true => simp [rxDrain, hcheck]
  | false =>
    simp [rxDrain, hcheck, splitLines_of_not_mem_LF ((rxCheck_eq_false_iff u s).mp hcheck), State.setRxBuf_rxBufOf]

section Lines

variable {u : UnitId} {s : State} {lines : List Line} {rest : List Byte}

theorem drainedLines_of_joinLines (hbuf : s.rxBufOf u = joinLines lines ++ rest) (hlines : ∀ l ∈ lines, LF ∉ l)
    (hrest : LF ∉ rest) : drainedLines u s = lines := by
  rw [drainedLines_eq_splitLines, hbuf, splitLines_joinLines_append hlines hrest]

theorem rxDrain_of_joinLines (hbuf : s.rxBufOf u = joinLines lines ++ rest) (hlines : ∀ l ∈ lines, LF ∉ l)
    (hrest : LF ∉ rest) : rxDrain u s = s.setRxBuf u rest := by
  rw [rxDrain_eq_splitLines, hbuf, splitLines_joinLines_append hlines hrest]

end Lines

/-! The opcode of a poll (R200, R201) and the instruction it stands for at the dispatcher's input (R86, R209). -/

theorem selectOpcode_eq_elim (lines : List Line) :
    selectOpcode lines = (lines.filter fun l => l ≠ []).getLast?.elim .idle cdec := by
  have hnonempty : (fun l : Line => !l.isEmpty) = fun l => decide (l ≠ []) := by
    funext l
    cases l <;> rfl
  rw [selectOpcode, hnonempty]
  cases (lines.filter fun l => l ≠ []).getLast? <;> rfl

@[simp] theorem Opcode.ofCode_code (op : Opcode) : Opcode.ofCode op.code = op := by cases op <;> rfl

/-- An opcode at the input of a running, polling dispatcher has its rule's effect, and that alone. -/
theorem exec_decodeOpcode_of_polling {s : State} (hrun : s.host.run = .running) (hphase : s.host.phase = .polling)
    (code : BitVec 2) (d : Inputs) :
    exec (decodeOpcode code d) s = .next (dispatch (Opcode.ofCode code) (s.clock d.now) s) := by
  have hrule (f : State → State) : whenRunning .host (whenPolling f) s = f s := by
    rw [whenRunning_of_running (u := .host) _ hrun, whenPolling_of_polling f hphase]
  unfold decodeOpcode
  cases Opcode.ofCode code with
  | idle => exact congrArg Host.Outcome.next (hrule (opIdle (s.clock d.now)))
  | send => exact congrArg Host.Outcome.next (hrule (opSend (s.clock d.now)))
  | grade2 => exact congrArg Host.Outcome.next (hrule (opGrade2 (s.clock d.now)))
  | grade1 => exact congrArg Host.Outcome.next (hrule (opGrade1 (s.clock d.now)))

theorem exec_decodeOpcode_code_of_polling {s : State} (hrun : s.host.run = .running) (hphase : s.host.phase = .polling)
    (op : Opcode) (d : Inputs) : exec (decodeOpcode op.code d) s = .next (dispatch op (s.clock d.now) s) := by
  rw [exec_decodeOpcode_of_polling hrun hphase, Opcode.ofCode_code]

theorem exec_hostPoll_of_polling {s : State} (hrun : s.host.run = .running) (hphase : s.host.phase = .polling)
    (now : Time) :
    exec (.hostPoll now) s = .next (actOnLines (drainedLines .host s) (s.clock now) (rxDrain .host s)) := by
  have hpoll : whenRunning .host (fun s => hostPoll (s.clock now) s) s = hostPoll (s.clock now) s :=
    whenRunning_of_running (u := .host) _ hrun
  exact congrArg Host.Outcome.next (hpoll.trans (whenPolling_of_polling _ hphase))

/-- Settles O29: HOST_POLL runs the opcode that the drained lines select; the statement's table is `selectOpcode`'s (R200,
R201), and its rule is the instruction of that opcode. -/
theorem hostPollRunsTheLastLine : Obligations.HostPollRunsTheLastLine := by
  unfold Obligations.HostPollRunsTheLastLine
  intro now lines rest s hrun hphase hbuf hlines hrest op rule
  have hop : selectOpcode lines = op := by
    rw [selectOpcode_eq_elim]
    unfold op
    cases (lines.filter fun l => l ≠ []).getLast? <;> rfl
  have hrule : decodeOpcode op.code { now := now } = rule := by
    unfold rule
    cases op <;> rfl
  refine ⟨dispatch op (s.clock now) ((s.setRxBuf .host rest).setLastOp op), ?poll, ?rule⟩
  case poll =>
    rw [exec_hostPoll_of_polling hrun hphase, drainedLines_of_joinLines (u := .host) hbuf hlines hrest,
      rxDrain_of_joinLines (u := .host) hbuf hlines hrest, actOnLines, hop]
  case rule =>
    rw [← hrule]
    exact exec_decodeOpcode_code_of_polling (s := (s.setRxBuf .host rest).setLastOp op) hrun hphase op { now := now }

end Sys2Proof.Machine
end

section
/-!
PROOFS, family 44_tick_generator. TICK_CHECK at a running DU by whether the interval has elapsed (R230).
-/

namespace Sys2Proof.Machine

theorem tickFires_iff (t : Time) (s : State) :
    tickFires t s = true ↔ s.cfg.tickInterval ≤ elapsed s.cfg t s.du.tickLastFire := decide_eq_true_iff

theorem tickFires_eq_false_iff (t : Time) (s : State) :
    tickFires t s = false ↔ elapsed s.cfg t s.du.tickLastFire < s.cfg.tickInterval :=
  decide_eq_false_iff_not.trans Nat.not_le

theorem tickCheck_of_fires {t : Time} {s : State} (h : tickFires t s = true) : tickCheck t s = s.setTickLastFire t :=
  if_pos h

theorem tickCheck_of_not_fires {t : Time} {s : State} (h : tickFires t s = false) : tickCheck t s = s := by
  rw [tickCheck, h]; rfl

section Running

variable {now : Time} {s : State}

theorem exec_tickCheck_of_running (hrun : s.du.run = .running) (now : Time) :
    exec (.tickCheck now) s = .next
      ((tickCheck (s.clock now) s).setOut .du { s.du.out with fire := some (tickFires (s.clock now) s) }) :=
  congrArg Host.Outcome.next (whenRunning_of_running (u := .du) _ hrun)

theorem exec_tickCheck_of_fires (hrun : s.du.run = .running) (h : tickFires (s.clock now) s = true) :
    exec (.tickCheck now) s =
      .next ((s.setTickLastFire (s.clock now)).setOut .du { s.du.out with fire := some true }) := by
  rw [exec_tickCheck_of_running hrun, tickCheck_of_fires h, h]

theorem exec_tickCheck_of_not_fires (hrun : s.du.run = .running) (h : tickFires (s.clock now) s = false) :
    exec (.tickCheck now) s = .next (s.setOut .du { s.du.out with fire := some false }) := by
  rw [exec_tickCheck_of_running hrun, tickCheck_of_not_fires h, h]

end Running

/-- Settles O23: the two sides of TICK_INTERVAL are the two answers of the tick's test, and TICK_CHECK by each of them writes
FIRE, and at a fire the interval's start. -/
theorem tickCheckFiresAfterTheInterval : Obligations.TickCheckFiresAfterTheInterval := by
  unfold Obligations.TickCheckFiresAfterTheInterval
  intro now s hrun
  refine ⟨fun hdue => ?due, fun hearly => ?early⟩
  case due => exact exec_tickCheck_of_fires hrun ((tickFires_iff _ s).mpr hdue)
  case early => exact exec_tickCheck_of_not_fires hrun ((tickFires_eq_false_iff _ s).mpr hearly)

end Sys2Proof.Machine
end

section
/-!
PROOFS, family 45_transport_and_poll. NOP (R245), RX_DRAIN (R243), and DU_POLL as its parts one after the other (R244). The
parts as instructions also drive result ports, which DU_POLL does not; so the key fact about each part's effect is that it
neither reads nor writes the DU's result ports: it gives the same state when they are overwritten before it as when they are
overwritten after it.
-/

namespace Sys2Proof.Machine

/-- At a running unit NOP is the identity, and a FATAL unit ignores it (R301). -/
theorem exec_nop (u : UnitId) (s : State) : exec (.nop u) s = .next s := by
  obtain ⟨-, hid⟩ | ⟨-, hignored⟩ := whenRunning_cases u id s
  · exact congrArg Host.Outcome.next hid
  · exact congrArg Host.Outcome.next hignored

theorem decode_nopWord (u : UnitId) (d : Inputs) : decode (.command u 0x0000#16 d) = .ok (.nop u) :=
  decode_command_of_legal (by cases u <;> rfl) d

/-- Settles O1: NOP is the identity at a unit in either run state, and the all-zero word is legal at both ports. -/
theorem nopChangesNothing : Obligations.NopChangesNothing := by
  unfold Obligations.NopChangesNothing
  exact fun u d s => ⟨exec_nop u s, decode_nopWord u d⟩

/-- Settles O59: at each unit RX_DRAIN is the split of the buffer at every LF, and the split undoes the joining. -/
theorem rxDrainSplitsAtEveryLF : Obligations.RxDrainSplitsAtEveryLF := by
  unfold Obligations.RxDrainSplitsAtEveryLF
  intro lines rest s hlines hrest
  exact ⟨fun hbuf => ⟨drainedLines_of_joinLines (u := .du) hbuf hlines hrest,
      rxDrain_of_joinLines (u := .du) hbuf hlines hrest⟩,
    fun hbuf => ⟨drainedLines_of_joinLines (u := .host) hbuf hlines hrest,
      rxDrain_of_joinLines (u := .host) hbuf hlines hrest⟩⟩

/-! The effects of POLL and the DU's result ports. -/

theorem State.setOut_setOut (s : State) (u : UnitId) (x y : Results) : (s.setOut u x).setOut u y = s.setOut u y := by
  cases u <;> rfl

theorem closeWindow_setOut (i : Channel) (s : State) (x : Results) :
    closeWindow i (s.setOut .du x) = (closeWindow i s).setOut .du x := by
  cases hscope : s.cfg.settleScope <;> simp only [closeWindow, State.setOut_cfg, hscope] <;> rfl

theorem openWindow_setOut (i : Channel) (t : Time) (s : State) (x : Results) :
    openWindow i t (s.setOut .du x) = (openWindow i t s).setOut .du x := by
  cases hscope : s.cfg.settleScope <;> simp only [openWindow, State.setOut_cfg, hscope] <;> rfl

theorem txWrite_setOut (b : List Byte) (s : State) (x : Results) :
    txWrite .du b (s.setOut .du x) = (txWrite .du b s).setOut .du x := by
  have henv : (takeAnswer (s.setOut .du x)).env = (takeAnswer s).env := takeAnswer_env_congr rfl
  have hanswer : nextAnswer (s.setOut .du x) = nextAnswer s := nextAnswer_congr rfl
  cases h : nextAnswer s with
  | ok => rw [txWrite_du_ok b h, txWrite_du_ok b (hanswer.trans h), henv]; rfl
  | failed n => rw [txWrite_du_failed b h, txWrite_du_failed b (hanswer.trans h), henv]; rfl

theorem pressed_setOut (i : Channel) (t : Time) (s : State) (x : Results) :
    pressed i t (s.setOut .du x) = (pressed i t s).setOut .du x := by
  have hopened : openWindow i t ((setPhase i .pressed (s.setOut .du x)).setPulse i true) =
      (openWindow i t ((setPhase i .pressed s).setPulse i true)).setOut .du x :=
    openWindow_setOut i t ((setPhase i .pressed s).setPulse i true) x
  cases i with
  | send => simp only [pressed, hopened]; exact txWrite_setOut _ _ x
  | mode => simp only [pressed, hopened]; exact txWrite_setOut _ (modeToggle _) x
  | next => simp only [pressed, hopened, controlLine]

theorem pollChannel_setOut (i : Channel) (p : Bool) (t : Time) (s : State) (x : Results) :
    pollChannel i p t (s.setOut .du x) = (pollChannel i p t s).setOut .du x := by
  have hwindow : windowOpen i t (s.setOut .du x) = windowOpen i t s := windowOpen_congr rfl rfl rfl i t
  have hsampled : setRaw i p (closeWindow i ((s.setOut .du x).setPulse i false)) =
      (setRaw i p (closeWindow i (s.setPulse i false))).setOut .du x :=
    congrArg (setRaw i p) (closeWindow_setOut i (s.setPulse i false) x)
  cases hw : windowOpen i t s with
  | true => rw [pollChannel_of_open p hw, pollChannel_of_open p (hwindow.trans hw)]; rfl
  | false =>
    simp only [pollChannel, hwindow, hw, hsampled, State.setOut_du_ch]
    cases (s.du.ch.get i).phase <;> cases p
    case released.false => exact pressed_setOut i t _ x
    all_goals rfl

@[simp] theorem pollChannel_clock (i : Channel) (p : Bool) (t now : Time) (s : State) :
    (pollChannel i p t s).clock now = s.clock now := by rw [State.clock, pollChannel_cfg, State.clock]

theorem exec_poll_setOut {s : State} {now t : Time} (hrun : s.du.run = .running) (hclock : s.clock now = t) (i : Channel)
    (p : Bool) (x : Results) :
    ∃ y, exec (.poll i.field p now) (s.setOut .du x) = .next ((pollChannel i p t s).setOut .du y) := by
  have hpolled : polled i p now (s.setOut .du x) = drivePulse i ((pollChannel i p (s.clock now) s).setOut .du x) :=
    congrArg (drivePulse i) (pollChannel_setOut i p (s.clock now) s x)
  rw [exec_poll_of_running (s := s.setOut .du x) hrun, hpolled, hclock]
  exact ⟨_, rfl⟩

/-- Step 1 of DU_POLL as instructions: the three POLLs, but for the result ports (R244). -/
theorem runInstrs_polls {s : State} (hrun : s.du.run = .running) (now : Time) (pins : BitVec 3) :
    ∃ x, runInstrs [.poll 0#2 (pins.getLsbD 0) now, .poll 1#2 (pins.getLsbD 1) now, .poll 2#2 (pins.getLsbD 2) now] s =
      .next ((pollButtons (s.clock now) pins s).setOut .du x) := by
  obtain ⟨x, hsend⟩ := exec_poll_setOut (now := now) hrun rfl .send (pinLevel pins .send) s.du.out
  obtain ⟨y, hmode⟩ := exec_poll_setOut (s := pollChannel .send (pinLevel pins .send) (s.clock now) s)
    (now := now) (by simpa using hrun) (pollChannel_clock ..) .mode (pinLevel pins .mode) x
  obtain ⟨z, hnext⟩ := exec_poll_setOut
    (s := pollChannel .mode (pinLevel pins .mode) (s.clock now)
      (pollChannel .send (pinLevel pins .send) (s.clock now) s))
    (now := now) (t := s.clock now) (by simpa using hrun) (by simp) .next (pinLevel pins .next) y
  exact ⟨z, (runInstrs_cons_of_next hsend _).trans
    ((runInstrs_cons_of_next hmode _).trans (runInstrs_cons_of_next hnext _))⟩

/-! What POLL leaves unchanged: the receive buffer. -/

@[simp] theorem closeWindow_du_rxBuf (i : Channel) (s : State) : (closeWindow i s).du.rxBuf = s.du.rxBuf := by
  unfold closeWindow; split <;> rfl

@[simp] theorem openWindow_du_rxBuf (i : Channel) (t : Time) (s : State) :
    (openWindow i t s).du.rxBuf = s.du.rxBuf := by
  unfold openWindow; split <;> rfl

@[simp] theorem setRaw_du_rxBuf (i : Channel) (p : Bool) (s : State) : (setRaw i p s).du.rxBuf = s.du.rxBuf := rfl
@[simp] theorem setPhase_du_rxBuf (i : Channel) (ph : Phase) (s : State) : (setPhase i ph s).du.rxBuf = s.du.rxBuf := rfl

@[simp] theorem pressed_du_rxBuf (i : Channel) (t : Time) (s : State) : (pressed i t s).du.rxBuf = s.du.rxBuf := by
  obtain ⟨-, _, _, _, hdu⟩ := pressed_frame i t s
  simp [hdu]

@[simp] theorem pollChannel_du_rxBuf (i : Channel) (p : Bool) (t : Time) (s : State) :
    (pollChannel i p t s).du.rxBuf = s.du.rxBuf := by
  cases hw : windowOpen i t s with
  | true => simp [pollChannel_of_open p hw]
  | false => rw [pollChannel_of_closed p hw]; split <;> simp

section Buttons

variable (t : Time) (pins : BitVec 3) (s : State)

@[simp] theorem pollButtons_du_run : (pollButtons t pins s).du.run = s.du.run := by simp [pollButtons]
@[simp] theorem pollButtons_cfg : (pollButtons t pins s).cfg = s.cfg := by simp [pollButtons]
@[simp] theorem pollButtons_du_rxBuf : (pollButtons t pins s).du.rxBuf = s.du.rxBuf := by simp [pollButtons]

end Buttons

/-! The effects of ADVANCE and RX_FRAME and the DU's result ports; what they leave unchanged. -/

@[simp] theorem advance_du_run (c : Bool) (s : State) : (advance c s).du.run = s.du.run := by cases c <;> rfl
@[simp] theorem advance_cfg (c : Bool) (s : State) : (advance c s).cfg = s.cfg := by cases c <;> rfl
@[simp] theorem advance_du_rxBuf (c : Bool) (s : State) : (advance c s).du.rxBuf = s.du.rxBuf := by cases c <;> rfl

theorem advance_setRxBuf (c : Bool) (s : State) (bs : List Byte) :
    (advance c s).setRxBuf .du bs = advance c (s.setRxBuf .du bs) := by cases c <;> rfl

theorem advance_setOut (c : Bool) (s : State) (x : Results) :
    advance c (s.setOut .du x) = (advance c s).setOut .du x := by cases c <;> rfl

theorem driveFront_eq_setOut (s : State) : ∃ x, driveFront s = s.setOut .du x := ⟨_, rfl⟩

theorem pushBack_frame (g : Grid) (s : State) :
    (pushBack g s).cfg = s.cfg ∧ (pushBack g s).du.run = s.du.run := by
  obtain ⟨-, hpush⟩ | ⟨-, hpush⟩ := pushBack_cases g s <;> rw [hpush] <;> exact ⟨rfl, rfl⟩

theorem pushFront_frame (g : Grid) (s : State) :
    (pushFront g s).cfg = s.cfg ∧ (pushFront g s).du.run = s.du.run := by
  obtain ⟨-, hpush⟩ | ⟨-, hpush⟩ := pushFront_cases g s <;> rw [hpush] <;> exact ⟨rfl, rfl⟩

theorem rxFrame_frame (l : Line) (s : State) : (rxFrame l s).cfg = s.cfg ∧ (rxFrame l s).du.run = s.du.run := by
  obtain ⟨_, -, hrx⟩ | ⟨g, -, hrx⟩ | ⟨g, -, hrx⟩ := rxFrame_cases l s
  · rw [hrx]; exact ⟨rfl, rfl⟩
  · rw [hrx]; exact pushFront_frame g (s.emit .du .buzz)
  · rw [hrx]; exact pushBack_frame g s

theorem pushBack_setOut (g : Grid) (s : State) (x : Results) :
    pushBack g (s.setOut .du x) = (pushBack g s).setOut .du x := by
  have hroom : hasRoom (s.setOut .du x) = hasRoom s := rfl
  cases h : hasRoom s <;> simp only [pushBack, hroom, h] <;> rfl

theorem pushFront_setOut (g : Grid) (s : State) (x : Results) :
    pushFront g (s.setOut .du x) = (pushFront g s).setOut .du x := by
  have hroom : hasRoom (s.setOut .du x) = hasRoom s := rfl
  cases h : hasRoom s <;> simp only [pushFront, hroom, h] <;> rfl

theorem rxFrame_setOut (l : Line) (s : State) (x : Results) :
    rxFrame l (s.setOut .du x) = (rxFrame l s).setOut .du x := by
  unfold rxFrame
  split
  · rfl
  · exact pushFront_setOut _ (s.emit .du .buzz) x
  · exact pushBack_setOut _ s x

/-! RX_FRAME of several lines, in arrival order. -/

/-- RX_FRAME's effect on each of the lines, the first line first. -/
def rxFrames (lines : List Line) (s : State) : State := lines.foldl (fun s l => rxFrame l s) s

theorem rxFrames_cons (l : Line) (ls : List Line) (s : State) : rxFrames (l :: ls) s = rxFrames ls (rxFrame l s) := rfl

theorem rxFrames_frame (lines : List Line) (s : State) :
    (rxFrames lines s).cfg = s.cfg ∧ (rxFrames lines s).du.run = s.du.run := by
  induction lines generalizing s with
  | nil => exact ⟨rfl, rfl⟩
  | cons l ls ih =>
    obtain ⟨hcfg, hrun⟩ := rxFrame_frame l s
    rw [rxFrames_cons, ← hcfg, ← hrun]
    exact ih (rxFrame l s)

theorem rxFrames_setOut (lines : List Line) (s : State) (x : Results) :
    rxFrames lines (s.setOut .du x) = (rxFrames lines s).setOut .du x :=
  List.foldl_hom (fun s : State => s.setOut .du x) fun s l => rxFrame_setOut l s x

theorem runInstrs_rxFrames {s : State} (hrun : s.du.run = .running) (lines : List Line) :
    runInstrs (lines.map .rxFrame) s = .next (rxFrames lines s) := by
  induction lines generalizing s with
  | nil => rfl
  | cons l ls ih =>
    rw [List.map_cons, runInstrs_cons_of_next (exec_rxFrame_of_running hrun l), ih ((rxFrame_frame l s).2.trans hrun),
      rxFrames_cons]

/-- Steps 2 and 3 of DU_POLL as instructions: ADVANCE, then RX_FRAME of every line, but for the result ports (R244). -/
theorem runInstrs_advance_rxFrames {s : State} (hrun : s.du.run = .running) (c : Bool) (lines : List Line)
    (x : Results) : ∃ y, runInstrs (.advance c :: lines.map .rxFrame) (s.setOut .du x) =
      .next ((rxFrames lines (advance c s)).setOut .du y) := by
  obtain ⟨y, hfront⟩ := driveFront_eq_setOut ((advance c s).setOut .du x)
  refine ⟨y, ?_⟩
  rw [runInstrs_cons_of_next (exec_advance_of_running (s := s.setOut .du x) hrun c), advance_setOut, hfront,
    runInstrs_rxFrames (by simpa using hrun), State.setOut_setOut, rxFrames_setOut]

theorem receiveLines_of_joinLines {s : State} {lines : List Line} {rest : List Byte}
    (hbuf : s.du.rxBuf = joinLines lines ++ rest) (hlines : ∀ l ∈ lines, LF ∉ l) (hrest : LF ∉ rest) :
    receiveLines s = rxFrames lines (s.setRxBuf .du rest) := by
  rw [receiveLines, drainedLines_of_joinLines (u := .du) hbuf hlines hrest,
    rxDrain_of_joinLines (u := .du) hbuf hlines hrest, rxFrames]

/-! DU_POLL (R244). -/

theorem exec_duPoll_of_running {s : State} (hrun : s.du.run = .running) (now : Time) (pins : BitVec 3) :
    exec (.duPoll now pins) s = .next (duPoll (s.clock now) pins s) :=
  congrArg Host.Outcome.next (whenRunning_of_running (u := .du) _ hrun)

/-- The state in which DU_POLL reaches its refresh: the buttons polled, the front popped by the NEXT pulse, the complete
lines received, and the incomplete one left (R244). -/
def duReceived (t : Time) (pins : BitVec 3) (lines : List Line) (rest : List Byte) (s : State) : State :=
  rxFrames lines (advance (pollButtons t pins s).du.pulse.next ((pollButtons t pins s).setRxBuf .du rest))

theorem duReceived_frame (t : Time) (pins : BitVec 3) (lines : List Line) (rest : List Byte) (s : State) :
    (duReceived t pins lines rest s).cfg = s.cfg ∧ (duReceived t pins lines rest s).du.run = s.du.run := by
  simpa [duReceived] using rxFrames_frame lines
    (advance (pollButtons t pins s).du.pulse.next ((pollButtons t pins s).setRxBuf .du rest))

theorem duPoll_eq_refresh_duReceived {s : State} {lines : List Line} {rest : List Byte}
    (hbuf : s.du.rxBuf = joinLines lines ++ rest) (hlines : ∀ l ∈ lines, LF ∉ l) (hrest : LF ∉ rest) (t : Time)
    (pins : BitVec 3) : duPoll t pins s = refresh t (duReceived t pins lines rest s) := by
  rw [duPoll, receiveLines_of_joinLines (by simpa using hbuf) hlines hrest, advance_setRxBuf, duReceived]

/-- Step 4 of DU_POLL is TICK_CHECK with RENDER of the front when it fires, whatever the result ports were before (R244). -/
theorem exec_tickCheck_eq_refresh {s : State} (hrun : s.du.run = .running) (now : Time) (x : Results) :
    ∃ c, exec (.tickCheck now) (s.setOut .du x) = .next c ∧
      (refresh (s.clock now) s).setOut .du c.du.out = { c with du := { c.du with
        trace := if c.du.out.fire = some true then s.du.trace ++ [.render s.du.fifo.head?] else s.du.trace } } := by
  cases hfires : tickFires (s.clock now) s with
  | true =>
    refine ⟨_, exec_tickCheck_of_fires (s := s.setOut .du x) hrun hfires, ?_⟩
    rw [refresh, hfires, tickCheck_of_fires hfires]
    rfl
  | false =>
    refine ⟨_, exec_tickCheck_of_not_fires (s := s.setOut .du x) hrun hfires, ?_⟩
    rw [refresh, hfires]
    rfl

/-- Settles O33: the parts as instructions reach, but for the result ports, the states that DU_POLL passes through: after the
buttons, before the refresh, and after it. -/
theorem duPollRunsItsPartsInOrder : Obligations.DuPollRunsItsPartsInOrder := by
  unfold Obligations.DuPollRunsItsPartsInOrder
  intro now pins lines rest s hrun hbuf hlines hrest
  let received := duReceived (s.clock now) pins lines rest s
  obtain ⟨hcfg, hkept⟩ := duReceived_frame (s.clock now) pins lines rest s
  have hreceived : received.du.run = .running := hkept.trans hrun
  have hclock : received.clock now = s.clock now := by rw [State.clock, hcfg, State.clock]
  obtain ⟨x, hpolls⟩ := runInstrs_polls hrun now pins
  obtain ⟨y, hreceive⟩ := runInstrs_advance_rxFrames (s := (pollButtons (s.clock now) pins s).setRxBuf .du rest)
    (by simpa using hrun) (pollButtons (s.clock now) pins s).du.pulse.next lines x
  obtain ⟨c, htick, hrefresh⟩ := exec_tickCheck_eq_refresh hreceived now y
  rw [hclock] at hrefresh
  refine ⟨_, _, c, _, hpolls, hreceive, htick, exec_duPoll_of_running hrun now pins, ?_⟩
  rw [duPoll_eq_refresh_duReceived hbuf hlines hrest]
  exact hrefresh

end Sys2Proof.Machine
end

section
/-!
PROOFS, family 60_exceptions. CAPTURE_DONE (R210, R273): the host returns to POLLING with its idle timer restarted, and from
there one frame is written or RecognitionError is raised.
-/

namespace Sys2Proof.Machine

/-- A prefix length ENV gives within R241's bound is the length that is sent (log 21 is not used). -/
theorem sentBytes_of_lt {n len : Nat} (h : n < len) : sentBytes n len = n := Nat.mod_eq_of_lt h

/-- What every CAPTURE_DONE does first during a capture: POLLING, and the idle timer restarted (R210). -/
def backToPolling (t : Time) (s : State) : State := (s.setHostPhase .polling).setIdleStart t

theorem nextAnswer_backToPolling (t : Time) (s : State) : nextAnswer (backToPolling t s) = nextAnswer s :=
  nextAnswer_congr rfl

theorem takeAnswer_env_backToPolling (t : Time) (s : State) :
    (takeAnswer (backToPolling t s)).env = (takeAnswer s).env := takeAnswer_env_congr rfl

theorem captureDone_of_capture {s : State} (hphase : s.host.phase = .capture) (err : Bool) (cells : List Cell) (t : Time) :
    captureDone err cells t s =
      if err then raiseError .host .recognitionError (backToPolling t s)
      else txWrite .host (frameBytes false (normalizeCells cells)) (backToPolling t s) := by
  simp only [captureDone, hphase]
  rfl

section Capture

variable {s : State} (hrun : s.host.run = .running) (hphase : s.host.phase = .capture)
include hrun hphase

theorem exec_captureDone_false_of_capture (cells : List Cell) (now : Time) :
    exec (.captureDone false cells now) s =
      .next (txWrite .host (frameBytes false (normalizeCells cells)) (backToPolling (s.clock now) s)) :=
  congrArg Host.Outcome.next
    ((whenRunning_of_running (u := .host) _ hrun).trans (captureDone_of_capture hphase false cells (s.clock now)))

theorem exec_captureDone_true_of_capture (cells : List Cell) (now : Time) :
    exec (.captureDone true cells now) s =
      .next (raiseError .host .recognitionError (backToPolling (s.clock now) s)) :=
  congrArg Host.Outcome.next
    ((whenRunning_of_running (u := .host) _ hrun).trans (captureDone_of_capture hphase true cells (s.clock now)))

end Capture

/-- Settles O31: the Grid is `normalizeCells` of the captured cells; ENV's answer to the one write is the same before and
after the return to POLLING, and TX_WRITE's rule for that answer gives the state. -/
theorem captureDoneSendsOneFrame : Obligations.CaptureDoneSendsOneFrame := by
  unfold Obligations.CaptureDoneSendsOneFrame
  intro cells now s hrun hphase
  have hanswer := nextAnswer_backToPolling (s.clock now) s
  refine ⟨normalizeCells cells, rfl, fun hok => ?written, fun n hn hfailed => ?failed, ?recognitionError⟩
  case written =>
    rw [exec_captureDone_false_of_capture hrun hphase, txWrite_host_ok _ (hanswer.trans hok),
      takeAnswer_env_backToPolling]
    rfl
  case failed =>
    rw [exec_captureDone_false_of_capture hrun hphase, txWrite_host_failed _ (hanswer.trans hfailed),
      frameBytes_length, sentBytes_of_lt hn, takeAnswer_env_backToPolling]
    rfl
  case recognitionError =>
    rw [exec_captureDone_true_of_capture hrun hphase, raiseError_host_eq _ (by decide)]
    rfl

end Sys2Proof.Machine
end

section
/-!
PROOFS, family other: instructions as effects. Every instruction but RESET is one effect on the state, performed when its unit
is running (R301); so a statement about all instructions is a statement about their effects. RESET and FATAL units (R44, R246,
R300, R301).
-/

namespace Sys2Proof.Machine

/-- What an instruction does at a running unit; RESET does it at a FATAL one as well. -/
def effect (i : Instr) (s : State) : State :=
  match i with
  | .nop _ => s
  | .encode u h g => driveFrame u h g s
  | .normalize u cells => driveNormalized u cells s
  | .decode u l => driveDecoded u l s
  | .pushBack g => pushBack g s
  | .pushFront g => pushFront g s
  | .peek => driveFront s
  | .advance c => driveFront (advance c s)
  | .poll ch p now =>
    match channelOfField ch with
    | some i => polled i p now s
    | none => raiseError .du .illegalCommand s
  | .tickCheck now =>
    (tickCheck (s.clock now) s).setOut .du { s.du.out with fire := some (tickFires (s.clock now) s) }
  | .alertPost lab => alertPost (s.labelIn lab) s
  | .hostPoll now => hostPoll (s.clock now) s
  | .captureDone err cells now => captureDone err cells (s.clock now) s
  | .duPoll now pins => duPoll (s.clock now) pins s
  | .rxFrame l => rxFrame l s
  | .reset u now ok => resetUnit u (s.clock now) ok s
  | .opIdle now => whenPolling (opIdle (s.clock now)) s
  | .opSend now => whenPolling (opSend (s.clock now)) s
  | .opGrade2 now => whenPolling (opGrade2 (s.clock now)) s
  | .opGrade1 now => whenPolling (opGrade1 (s.clock now)) s
  | .frameOrdinary g => rxFrame (frameLine false g) s
  | .frameAlert g => rxFrame (frameLine true g) s
  | .ctrlSend now => pollOneLine lineSend (s.clock now) s
  | .ctrlTrue now => pollOneLine lineTrue (s.clock now) s
  | .ctrlFalse now => pollOneLine lineFalse (s.clock now) s

theorem exec_reset (u : UnitId) (now : Time) (ok : Bool) (s : State) :
    exec (.reset u now ok) s = .next (resetUnit u (s.clock now) ok s) := rfl

theorem exec_eq_whenRunning {i : Instr} (hi : ∀ u now ok, i ≠ .reset u now ok) (s : State) :
    exec i s = .next (whenRunning (encode i).unit (effect i) s) := by
  cases i with
  | reset u now ok => exact absurd rfl (hi u now ok)
  | _ => rfl

theorem exec_of_running {i : Instr} {s : State} (hrun : s.runOf (encode i).unit = .running) :
    exec i s = .next (effect i s) := by
  by_cases hi : ∃ u now ok, i = .reset u now ok
  · obtain ⟨u, now, ok, rfl⟩ := hi
    exact exec_reset u now ok s
  · rw [exec_eq_whenRunning (by simpa using hi), whenRunning_of_running _ hrun]

theorem exec_of_fatal {i : Instr} {s : State} (hfatal : s.runOf (encode i).unit = .fatal)
    (hi : ∀ u now ok, i ≠ .reset u now ok) : exec i s = .next s := by
  rw [exec_eq_whenRunning hi, whenRunning_of_fatal _ hfatal]

/-- An instruction has its effect, or (at a FATAL unit) none. -/
theorem exec_cases (i : Instr) (s : State) :
    exec i s = .next (effect i s) ∨ ((∀ u now ok, i ≠ .reset u now ok) ∧ exec i s = .next s) := by
  by_cases hi : ∃ u now ok, i = .reset u now ok
  · obtain ⟨u, now, ok, rfl⟩ := hi
    exact .inl (exec_reset u now ok s)
  · have hi' : ∀ u now ok, i ≠ .reset u now ok := by simpa using hi
    cases hrun : s.runOf (encode i).unit with
    | running => exact .inl (exec_of_running hrun)
    | fatal => exact .inr ⟨hi', exec_of_fatal hrun hi'⟩

/-- The rule for a property of an instruction's next state: it is proved of the effect, and of no change at all. -/
theorem exec_induction {i : Instr} {s t : State} (h : exec i s = .next t) {P : State → Prop} (heffect : P (effect i s))
    (hsame : P s) : P t := by
  obtain hnext | ⟨-, hnext⟩ := exec_cases i s
  · obtain rfl : effect i s = t := Host.Outcome.next.inj (hnext.symm.trans h)
    exact heffect
  · obtain rfl : s = t := Host.Outcome.next.inj (hnext.symm.trans h)
    exact hsame

theorem exists_exec (i : Instr) (s : State) : ∃ t, exec i s = .next t := by
  obtain h | ⟨-, h⟩ := exec_cases i s <;> exact ⟨_, h⟩

/-! RESET. -/

theorem resetUnit_true_run (u : UnitId) (t : Time) (s : State) : (resetUnit u t true s).runOf u = .running := by
  cases u <;> rfl

theorem resetUnit_du_false (t : Time) (s : State) :
    resetUnit .du t false s =
      { s with du := { (resetDu t s).du with run := .fatal, trace := s.du.trace ++ [.error .initFailure] } } :=
  raiseError_init_du_eq (resetDu t s)

theorem resetUnit_host_false (t : Time) (s : State) :
    resetUnit .host t false s = { resetHost t s with
      host := { (resetHost t s).host with run := .fatal, trace := s.host.trace ++ [.error .initFailure] } } :=
  raiseError_init_host_eq (resetHost t s)

/-- Settles O35: with the transport open RESET is the record of reset values; without it InitFailure is raised on that. -/
theorem resetOfTheDisplayUnit : Obligations.ResetOfTheDisplayUnit := by
  unfold Obligations.ResetOfTheDisplayUnit
  exact fun now s => ⟨rfl, congrArg Host.Outcome.next (resetUnit_du_false (s.clock now) s)⟩

/-- Settles O36: as at the DU; the label is the free value and the counter the one it was drawn at, plus one. -/
theorem resetOfTheHost : Obligations.ResetOfTheHost := by
  unfold Obligations.ResetOfTheHost
  exact fun now s => ⟨s.labelIn (Config.unspecifiedLabel s.env.draws), s.env.draws + 1, rfl,
    congrArg Host.Outcome.next (resetUnit_host_false (s.clock now) s)⟩

theorem linkStep_of_fatal {l : Link} {s : State} (hfatal : s.runOf (receiver l) = .fatal) (noise : Option Byte) :
    linkStep l noise s = s := by simp [linkStep, hfatal]

/-- Settles O37: an instruction but RESET is its effect only when its unit is running; RESET is the same at any unit. -/
theorem fatalUnitAcceptsOnlyReset : Obligations.FatalUnitAcceptsOnlyReset := by
  unfold Obligations.FatalUnitAcceptsOnlyReset
  refine ⟨fun i s hfatal hi => exec_of_fatal hfatal hi,
    fun u now s => ⟨_, exec_reset u now true s, resetUnit_true_run u _ s⟩, fun u now s => ?initFailure,
    fun l noise s hfatal => linkStep_of_fatal hfatal noise⟩
  refine ⟨_, exec_reset u now false s, ?_⟩
  cases u with
  | du => rw [resetUnit_du_false]; exact ⟨rfl, fun _ => rfl, nofun⟩
  | host => rw [resetUnit_host_false]; exact ⟨rfl, nofun, fun _ => rfl⟩

end Sys2Proof.Machine
end

section
/-!
PROOFS, family other: encodings. The legal command words, bit by bit (R91 to R93), and the encoder as the inverse of the
decoder: on command words, on lines, and against damaged lines (R305, R313).
-/

namespace Sys2Proof.Machine

/-! A command word decodes exactly when it passes the decoder's tests. -/

theorem legalWord_iff (u : UnitId) (cw : BitVec 16) :
    legalWord u cw = true ↔ cw &&& 0x003F#16 = 0#16 ∧ cw &&& 0x0FC0#16 &&& ~~~(fieldMask (cwOp cw)) = 0#16 ∧
      accepts u (cwOp cw) = true ∧ (cwOp cw = 8 → cwCh cw ≠ 3#2) := by
  simp [legalWord, and_assoc, imp_iff_not_or]

theorem decode_command_eq_ok_iff {u : UnitId} {cw : BitVec 16} {d : Inputs} {i : Instr} :
    decode (.command u cw d) = .ok i ↔ legalWord u cw = true ∧ commandInstr u cw d = i := by
  refine ⟨fun h => ?_, fun ⟨hlegal, hi⟩ => hi ▸ decode_command_of_legal hlegal d⟩
  have hlegal : legalWord u cw = true := by
    rw [legalWord_iff]
    simp only [decode, decodeCommand] at h
    split at h
    · cases h
    · split at h
      · cases h
      · split at h
        · cases h
        · split at h
          · cases h
          · next hreserved hunused haccepted hchannel =>
            exact ⟨not_not.mp hreserved, not_not.mp hunused, by simpa using haccepted, by simpa using hchannel⟩
  rw [decode_command_of_legal hlegal] at h
  exact ⟨hlegal, Except.ok.inj h⟩

/-! The bits of a command word. -/

theorem and_eq_zero_iff_getLsbD {n : Nat} (x m : BitVec n) :
    x &&& m = 0#n ↔ ∀ k < n, m.getLsbD k = true → x.getLsbD k = false := by
  constructor
  · intro h k _ hm
    simpa [hm] using congrArg (BitVec.getLsbD · k) h
  · intro h
    refine BitVec.eq_of_getLsbD_eq fun k hk => ?_
    cases hm : m.getLsbD k with
    | false => simp [hm]
    | true => simp [h k hk hm]

theorem extractLsb'_eq_zero_iff {n : Nat} (x : BitVec n) (start len : Nat) :
    x.extractLsb' start len = 0#len ↔ ∀ k < len, x.getLsbD (start + k) = false := by
  constructor
  · intro h k hk
    simpa [hk] using congrArg (BitVec.getLsbD · k) h
  · intro h
    refine BitVec.eq_of_getLsbD_eq fun k hk => ?_
    simp [hk, h k hk]

theorem lowBits_eq_zero_iff (cw : BitVec 16) : cw &&& 0x003F#16 = 0#16 ↔ cw.extractLsb' 0 6 = 0#6 := by
  have hmask : ∀ k < 16, (0x003F#16).getLsbD k = true ↔ k < 6 := by decide
  rw [and_eq_zero_iff_getLsbD, extractLsb'_eq_zero_iff]
  simp only [Nat.zero_add]
  exact ⟨fun h k hk => h k (by omega) ((hmask k (by omega)).mpr hk), fun h k hk hm => h k ((hmask k hk).mp hm)⟩

/-- The mask of the fields an operation does not use: CH and PIN but for POLL, CONSUME but for ADVANCE, HDR but for ENCODE,
ERR but for CAPTURE_DONE (R92). -/
theorem unusedMask_getLsbD (op : Nat) : ∀ k < 16, (0x0FC0#16 &&& ~~~(fieldMask op)).getLsbD k = true ↔
    (op ≠ 8 ∧ (k = 9 ∨ k = 10 ∨ k = 11)) ∨ (op ≠ 7 ∧ k = 8) ∨ (op ≠ 1 ∧ k = 7) ∨ (op ≠ 12 ∧ k = 6) := by
  unfold fieldMask
  split
  case h_5 hencode hadvance hpoll hcapture =>
    simp only [ne_eq, show op ≠ 1 from hencode, show op ≠ 7 from hadvance, show op ≠ 8 from hpoll,
      show op ≠ 12 from hcapture, not_false_eq_true]
    decide
  all_goals decide

/-- The fields an operation does not use, one after the other (R92, R93). -/
theorem unusedFields_eq_zero_iff (cw : BitVec 16) (op : Nat) :
    cw &&& 0x0FC0#16 &&& ~~~(fieldMask op) = 0#16 ↔
      (op ≠ 8 → cw.extractLsb' 9 3 = 0#3) ∧ (op ≠ 7 → cw.getLsbD 8 = false) ∧ (op ≠ 1 → cw.getLsbD 7 = false) ∧
        (op ≠ 12 → cw.getLsbD 6 = false) := by
  rw [BitVec.and_assoc, and_eq_zero_iff_getLsbD, extractLsb'_eq_zero_iff]
  constructor
  · intro h
    have hbit (k : Nat) (hk : k < 16) := fun hm => h k hk ((unusedMask_getLsbD op k hk).mpr hm)
    refine ⟨fun hop k hk => hbit (9 + k) (by omega) (.inl ⟨hop, by omega⟩), fun hop => hbit 8 (by omega) (by simp [hop]),
      fun hop => hbit 7 (by omega) (by simp [hop]), fun hop => hbit 6 (by omega) (by simp [hop])⟩
  · rintro ⟨hpoll, hadvance, hencode, hcapture⟩ k hk hm
    obtain ⟨hop, hfield⟩ | ⟨hop, rfl⟩ | ⟨hop, rfl⟩ | ⟨hop, rfl⟩ := (unusedMask_getLsbD op k hk).mp hm
    · obtain ⟨j, rfl⟩ := Nat.exists_eq_add_of_le (show 9 ≤ k by omega)
      exact hpoll hop j (by omega)
    · exact hadvance hop
    · exact hencode hop
    · exact hcapture hop

/-- The units that accept an operation, as a table (R92). -/
theorem accepts_iff (u : UnitId) {op : Nat} (hop : op < 16) : accepts u op = true ↔
    op ∈ [0, 1, 2, 3, 15] ∨ (u = .du ∧ op ∈ [4, 5, 6, 7, 8, 9, 13, 14]) ∨ (u = .host ∧ op ∈ [10, 11, 12]) := by
  cases u <;> interval_cases op <;> decide

theorem cwOp_lt (cw : BitVec 16) : cwOp cw < 16 := (cw.extractLsb' 12 4).isLt

/-- Settles O40: the decoder's four tests are the statement's conditions, one by one. -/
theorem legalCommandWords : Obligations.LegalCommandWords := by
  unfold Obligations.LegalCommandWords
  intro u cw d op
  have hlegal : (∃ i, decode (.command u cw d) = .ok i) ↔ legalWord u cw = true := by
    simp [decode_command_eq_ok_iff]
  have hop : cwOp cw = op := rfl
  have hch : cwCh cw = cw.extractLsb' 10 2 := rfl
  rw [hlegal, legalWord_iff, lowBits_eq_zero_iff, unusedFields_eq_zero_iff, accepts_iff u (cwOp_lt cw), hop, hch]
  exact ⟨fun ⟨hlow, ⟨hpoll, hadvance, hencode, hcapture⟩, haccepted, hchannel⟩ =>
      ⟨haccepted, hpoll, hadvance, hencode, hcapture, hlow, hchannel⟩,
    fun ⟨haccepted, hpoll, hadvance, hencode, hcapture, hlow, hchannel⟩ =>
      ⟨hlow, ⟨hpoll, hadvance, hencode, hcapture⟩, haccepted, hchannel⟩⟩

/-! A legal command word is its operation's code and the fields the operation uses, and nothing else. -/

theorem bitField_getLsbD {k : Nat} (hk : k < 16) (b : Bool) (j : Nat) :
    (bitField k b).getLsbD j = (b && decide (j = k)) := by
  cases b with
  | false => simp [bitField]
  | true =>
    rw [bitField, if_pos rfl, ← BitVec.twoPow_eq, BitVec.getLsbD_twoPow]
    simp [hk, eq_comm]

theorem and_bitField_true (cw : BitVec 16) {k : Nat} (hk : k < 16) :
    cw &&& bitField k true = bitField k (cw.getLsbD k) := by
  refine BitVec.eq_of_getLsbD_eq fun j _ => ?_
  rw [BitVec.getLsbD_and, bitField_getLsbD hk, bitField_getLsbD hk]
  by_cases hj : j = k <;> simp [hj]

theorem and_pollFields (cw : BitVec 16) :
    cw &&& 0x0E00#16 = (cwCh cw).setWidth 16 <<< 10 ||| bitField 9 (cwPin cw) := by
  refine BitVec.eq_of_getLsbD_eq fun k hk => ?_
  rw [BitVec.getLsbD_or, bitField_getLsbD (by omega)]
  interval_cases k <;> simp [cwCh, cwPin]

theorem opBits_eq (cw : BitVec 16) : BitVec.ofNat 16 (cwOp cw) <<< 12 = cw &&& 0xF000#16 := by
  rw [cwOp, BitVec.ofNat_toNat]
  refine BitVec.eq_of_getLsbD_eq fun k hk => ?_
  interval_cases k <;> simp

/-- The bits the tests of a legal word leave free are its operation's code and the fields that operation uses. -/
theorem legalWord_eq {u : UnitId} {cw : BitVec 16} (h : legalWord u cw = true) :
    cw = BitVec.ofNat 16 (cwOp cw) <<< 12 ||| (cw &&& fieldMask (cwOp cw)) := by
  obtain ⟨hlow, hunused, -, -⟩ := (legalWord_iff u cw).mp h
  have hopMask : ∀ k < 16, (0xF000#16).getLsbD k = decide (12 ≤ k) := by decide
  have hlowMask : ∀ k < 6, (0x003F#16).getLsbD k = true := by decide
  have hfieldMask : ∀ k < 12, 6 ≤ k → (0x0FC0#16).getLsbD k = true := by decide
  rw [opBits_eq]
  refine BitVec.eq_of_getLsbD_eq fun k hk => ?_
  rw [BitVec.getLsbD_or, BitVec.getLsbD_and, BitVec.getLsbD_and, hopMask k hk]
  cases hbit : cw.getLsbD k with
  | false => simp
  | true =>
    by_cases hop : 12 ≤ k
    · simp [hop]
    · have hk6 : 6 ≤ k := by
        by_contra hlt
        cases hbit.symm.trans ((and_eq_zero_iff_getLsbD _ _).mp hlow k hk (hlowMask k (by omega)))
      cases hm : (fieldMask (cwOp cw)).getLsbD k with
      | true => simp
      | false =>
        have hunusedBit := (and_eq_zero_iff_getLsbD _ _).mp hunused k hk
          (by rw [BitVec.getLsbD_not, hm, decide_eq_true hk]; rfl)
        rw [BitVec.getLsbD_and, hbit, hfieldMask k (by omega) hk6] at hunusedBit
        cases hunusedBit

/-- The encoder's word for the instruction of a command word at a port that accepts it. -/
theorem encode_commandInstr {u : UnitId} {cw : BitVec 16} (hu : accepts u (cwOp cw) = true) (d : Inputs) :
    ∃ d', encode (commandInstr u cw d) =
      .command u (BitVec.ofNat 16 (cwOp cw) <<< 12 ||| (cw &&& fieldMask (cwOp cw))) d' := by
  have hhdr : cw &&& 0x0080#16 = bitField 7 (cwHdr cw) := and_bitField_true cw (k := 7) (by omega)
  have hconsume : cw &&& 0x0100#16 = bitField 8 (cwConsume cw) := and_bitField_true cw (k := 8) (by omega)
  have herr : cw &&& 0x0040#16 = bitField 6 (cwErr cw) := and_bitField_true cw (k := 6) (by omega)
  have hpoll := and_pollFields cw
  obtain hop | ⟨rfl, hop⟩ | ⟨rfl, hop⟩ := (accepts_iff u (cwOp_lt cw)).mp hu
  all_goals simp only [List.mem_cons, List.not_mem_nil, or_false] at hop
  case inl =>
    rcases hop with hop | hop | hop | hop | hop <;> simp [commandInstr, hop, encode, fieldMask, hhdr]
  case inr.inl =>
    rcases hop with hop | hop | hop | hop | hop | hop | hop | hop <;>
      simp [commandInstr, hop, encode, fieldMask, hconsume, hpoll, BitVec.or_assoc]
  case inr.inr =>
    rcases hop with hop | hop | hop <;> simp [commandInstr, hop, encode, fieldMask, herr]

theorem wellFormed_commandInstr {cw : BitVec 16} (hchannel : cwOp cw = 8 → cwCh cw ≠ 3#2) (u : UnitId) (d : Inputs) :
    (commandInstr u cw d).wellFormed = true := by
  unfold commandInstr
  split
  case h_9 hop => simpa [Instr.wellFormed] using hchannel hop
  all_goals rfl

/-- Settles O39: the tests leave only the bits that the encoder writes. -/
theorem legalCommandWordsAreDetermined : Obligations.LegalCommandWordsAreDetermined := by
  unfold Obligations.LegalCommandWordsAreDetermined
  intro u cw d i h
  obtain ⟨hlegal, rfl⟩ := decode_command_eq_ok_iff.mp h
  obtain ⟨-, -, haccepted, hchannel⟩ := (legalWord_iff u cw).mp hlegal
  obtain ⟨d', hencoded⟩ := encode_commandInstr haccepted d
  exact ⟨wellFormed_commandInstr hchannel u d, d', by rw [hencoded, ← legalWord_eq hlegal]⟩

/-! Lines. -/

theorem decode_duLine_eq_ok_iff {l : Line} {d : Inputs} {i : Instr} :
    decode (.line .du l d) = .ok i ↔
      ∃ h g, l = frameLine h g ∧ i = if h then .frameAlert g else .frameOrdinary g := by
  constructor
  · intro hdecoded
    simp only [decode, decodeDuLine] at hdecoded
    split at hdecoded
    · cases hdecoded
    · next g hok => exact ⟨false, g, decodeFrame_eq_ok_iff.mp hok, (Except.ok.inj hdecoded).symm⟩
    · next g hok => exact ⟨true, g, decodeFrame_eq_ok_iff.mp hok, (Except.ok.inj hdecoded).symm⟩
  · rintro ⟨h, g, rfl, rfl⟩
    cases h <;> simp [decode, decodeDuLine]

theorem decode_frameLine (h : Bool) (g : Grid) (d : Inputs) :
    decode (.line .du (frameLine h g) d) = .ok (if h then .frameAlert g else .frameOrdinary g) :=
  decode_duLine_eq_ok_iff.mpr ⟨h, g, rfl, rfl⟩

/-- Settles O41: a line decodes exactly when it is a frame, and a frame determines its header and its Grid. -/
theorem validLinesAreExactlyFrames : Obligations.ValidLinesAreExactlyFrames := by
  unfold Obligations.ValidLinesAreExactlyFrames
  intro l d
  refine ⟨?valid, fun g => ⟨?ordinary, ?alert⟩⟩
  case valid =>
    rw [validFrameLine_iff]
    constructor
    · rintro ⟨h, g, rfl⟩
      exact ⟨_, decode_frameLine h g d⟩
    · rintro ⟨i, hi⟩
      obtain ⟨h, g, hl, -⟩ := decode_duLine_eq_ok_iff.mp hi
      exact ⟨h, g, hl⟩
  case ordinary => rw [decode_duLine_eq_ok_iff, isFrameOf_iff]; simp
  case alert => rw [decode_duLine_eq_ok_iff, isFrameOf_iff]; simp

/-- Settles O38: a command's word passes the decoder's tests and its fields and ports spell the instruction; an opcode, a
frame and a control line are each decoded by their table. -/
theorem decodeOfEncodeIsIdentity : Obligations.DecodeOfEncodeIsIdentity := by
  unfold Obligations.DecodeOfEncodeIsIdentity
  intro i hi
  cases i with
  | nop u => exact decode_nopWord u _
  | encode u h g => exact decode_encodeWord u h _
  | normalize u _ | decode u _ => exact decode_command_of_legal (by cases u <;> rfl) _
  | pushBack | pushFront | peek | tickCheck | alertPost | rxFrame => exact decode_command_of_legal (by decide) _
  | advance c => exact decode_advanceWord c _
  | poll ch p now => exact decode_pollWord (by simpa [Instr.wellFormed] using hi) p _
  | hostPoll now => exact decode_hostPollWord _
  | captureDone e cells now => exact decode_captureDoneWord e _
  | duPoll now pins => exact decode_duPollWord _
  | reset u now ok => exact decode_resetWord u _
  | opIdle | opSend | opGrade2 | opGrade1 => rfl
  | frameOrdinary g => exact decode_frameLine false g _
  | frameAlert g => exact decode_frameLine true g _
  | ctrlSend | ctrlTrue | ctrlFalse => rfl

/-! Damaged lines (R305, R313). A control line's first character is a capital that stands nowhere else in a control line; a
frame has one length. -/

/-- The control lines (R84). -/
def controlLines : List Line := [lineSend, lineTrue, lineFalse]

theorem cdec_of_not_mem {l : Line} (h : l ∉ controlLines) : cdec l = .idle := by
  simp only [controlLines, List.mem_cons, List.not_mem_nil, or_false, not_or] at h
  obtain ⟨hsend, htrue, hfalse⟩ := h
  simp [cdec, hsend, htrue, hfalse]

theorem decode_hostLine_of_not_mem {l : Line} (h : l ∉ controlLines) (d : Inputs) :
    decode (.line .host l d) = .error .notAControlLine := by
  simp [decode, decodeHostLine, cdec_of_not_mem h]

/-- The first characters of the control lines: S, T and F. -/
def initials : List Byte := [0x53#8, 0x54#8, 0x46#8]

theorem exists_initial_of_mem {l : Line} (h : l ∈ controlLines) : ∃ c cs, l = c :: cs ∧ c ∈ initials ∧
    ∀ b ∈ cs, b ∉ initials := by
  have htable : ∀ l ∈ controlLines, l.headD 0#8 ∈ initials ∧ l ≠ [] ∧ ∀ b ∈ l.tail, b ∉ initials := by decide
  obtain ⟨hhead, hne, htail⟩ := htable l h
  obtain ⟨c, cs, rfl⟩ := List.exists_cons_of_ne_nil hne
  exact ⟨c, cs, rfl, hhead, htail⟩

/-- What is joined to the end of something else is not at the start of the line, where alone its initial may stand. -/
theorem append_not_mem_controlLines {a b : Line} (ha : a ≠ []) (hb : b ∈ controlLines) : a ++ b ∉ controlLines := by
  intro hjoined
  obtain ⟨c, cs, rfl, hc, -⟩ := exists_initial_of_mem hb
  obtain ⟨c', cs', heq, -, htail⟩ := exists_initial_of_mem hjoined
  obtain ⟨x, xs, rfl⟩ := List.exists_cons_of_ne_nil ha
  obtain ⟨-, rfl⟩ := List.cons.inj heq
  exact htail c (by simp) hc

/-- A line that lost its start begins with no initial. -/
theorem drop_not_mem_controlLines {a : Line} (ha : a ∈ controlLines) {n : Nat} (hn : 1 ≤ n) :
    a.drop n ∉ controlLines := by
  intro hdropped
  obtain ⟨c, cs, rfl, -, htail⟩ := exists_initial_of_mem ha
  obtain ⟨c', cs', heq, hc', -⟩ := exists_initial_of_mem hdropped
  obtain ⟨n, rfl⟩ := Nat.exists_eq_add_of_le' hn
  have hmem : c' ∈ cs.drop n := by
    rw [← List.drop_succ_cons (a := c), heq]
    exact List.mem_cons_self
  exact htail c' (List.mem_of_mem_drop hmem) hc'

theorem decode_duLine_of_length_ne {l : Line} (h : l.length ≠ 73) (d : Inputs) :
    decode (.line .du l d) = .error (.malformedFrame .length) := by
  simp [decode, decodeDuLine, decodeFrame_of_length_ne h]

/-- Settles O43: at the host by the initials of the control lines, at the DU by the one length of a frame. -/
theorem damagedLinesAreNotInstructions : Obligations.DamagedLinesAreNotInstructions := by
  unfold Obligations.DamagedLinesAreNotInstructions
  refine ⟨fun a _ b hb n hn _ d => ?joined, fun a ha n hn d => ?cut, fun h h' g g' n d hn hlast => ⟨?duJoined, ?duCut⟩⟩
  case joined =>
    have hprefix : (a ++ [LF]).take n ≠ [] := by simp [List.take_eq_nil_iff]; omega
    exact decode_hostLine_of_not_mem (append_not_mem_controlLines hprefix hb) d
  case cut => exact decode_hostLine_of_not_mem (drop_not_mem_controlLines ha hn) d
  case duJoined => exact decode_duLine_of_length_ne (by simp; omega) d
  case duCut => exact decode_duLine_of_length_ne (by simp; omega) d

end Sys2Proof.Machine
end

section
/-!
PROOFS, family other: the FIFO. The pushes on a full FIFO (R274), the frames that end in them (R117), and the order in which
Grids pushed at the back leave (R176).
-/

namespace Sys2Proof.Machine

/-! The pushes on a full FIFO. -/

theorem hasRoom_of_full {s : State} {n : Nat} (h : FifoFull s n) : hasRoom s = false := by
  simp [hasRoom, h.1, h.2]

theorem keptAtFront_of_full {s : State} {n : Nat} (h : FifoFull s n) : keptAtFront s = s.du.fifo.take (n - 1) := by
  simp [keptAtFront, h.1]

theorem pushBack_of_full {s : State} {n : Nat} (h : FifoFull s n) (g : Grid) :
    pushBack g s = { s with du := { s.du with
      status := s.du.status ||| DU_OVF, trace := s.du.trace ++ [.error (.fifoOverflow .back)] } } := by
  simp [pushBack, hasRoom_of_full h, raiseError_du_eq, errorBit]

theorem pushFront_of_full {s : State} {n : Nat} (h : FifoFull s n) (g : Grid) :
    pushFront g s = { s with du := { s.du with
      fifo := g :: s.du.fifo.take (n - 1)
      status := s.du.status ||| DU_OVF
      trace := s.du.trace ++ [.error (.fifoOverflow .front)] } } := by
  simp [pushFront, hasRoom_of_full h, keptAtFront_of_full h, raiseError_du_eq, errorBit, State.setFifo]

/-- Settles O8: the push with room and the push on a full FIFO. -/
theorem pushBackAppendsOrRejects : Obligations.PushBackAppendsOrRejects := by
  unfold Obligations.PushBackAppendsOrRejects
  intro g s hrun
  rw [exec_pushBack_of_running hrun]
  exact ⟨fun hroom => by rw [pushBack_of_room hroom], fun n hfull => by rw [pushBack_of_full hfull]; rfl⟩

/-- Settles O9: the push with room and the push on a full FIFO. -/
theorem pushFrontInsertsOrEvicts : Obligations.PushFrontInsertsOrEvicts := by
  unfold Obligations.PushFrontInsertsOrEvicts
  intro g s hrun
  rw [exec_pushFront_of_running hrun]
  exact ⟨fun hroom => by rw [pushFront_of_room hroom], fun n hfull => by rw [pushFront_of_full hfull]; rfl⟩

/-! Frames as instructions. -/

theorem exec_frameOrdinary_of_running {s : State} (hrun : s.du.run = .running) (g : Grid) :
    exec (.frameOrdinary g) s = .next (pushBack g s) := by
  rw [exec_of_running (i := .frameOrdinary g) hrun, effect, rxFrame_ordinary]

theorem exec_frameAlert_of_running {s : State} (hrun : s.du.run = .running) (g : Grid) :
    exec (.frameAlert g) s = .next (pushFront g (s.emit .du .buzz)) := by
  rw [exec_of_running (i := .frameAlert g) hrun, effect, rxFrame_alert]

/-- Settles O7: an ordinary frame is the push at the back, an alert the push at the front after BUZZ, which leaves the FIFO
as it is. -/
theorem framesInsertTheirGrid : Obligations.FramesInsertTheirGrid := by
  unfold Obligations.FramesInsertTheirGrid
  intro g s hrun
  rw [exec_frameOrdinary_of_running hrun, exec_frameAlert_of_running hrun]
  refine ⟨fun hroom => ?room, fun n hfull => ?full⟩
  case room =>
    have hbuzzed : FifoHasRoom (s.emit .du .buzz) := hroom
    rw [pushBack_of_room hroom, pushFront_of_room hbuzzed]
    exact ⟨rfl, rfl⟩
  case full =>
    have hbuzzed : FifoFull (s.emit .du .buzz) n := hfull
    rw [pushBack_of_full hfull, pushFront_of_full hbuzzed]
    exact ⟨rfl, by simp [State.emit, DU_OVF]⟩

/-! Runs of pushes and pops. -/

theorem runInstrs_append {is js : List Instr} {s t : State} (h : runInstrs is s = .next t) :
    runInstrs (is ++ js) s = runInstrs js t := by
  induction is generalizing s with
  | nil => rw [Host.Outcome.next.inj h]; rfl
  | cons i is ih =>
    obtain ⟨u, hu⟩ := exists_exec i s
    rw [runInstrs_cons_of_next hu] at h
    rw [List.cons_append, runInstrs_cons_of_next hu, ih h]

theorem runInstrs_pushBack {gs : List Grid} {s : State} (hrun : s.du.run = .running)
    (hdepth : s.cfg.fifoDepth = .unbounded ∨ ∃ n, s.cfg.fifoDepth = .bounded n ∧ s.du.fifo.length + gs.length ≤ n) :
    runInstrs (gs.map .pushBack) s = .next (s.setFifo (s.du.fifo ++ gs)) := by
  induction gs generalizing s with
  | nil => rw [List.append_nil]; rfl
  | cons g gs ih =>
    have hroom : FifoHasRoom s := fifoHasRoom_of_length_lt hdepth (by simp)
    have hrest := ih (s := s.setFifo (s.du.fifo ++ [g])) hrun
      (hdepth.imp_right fun ⟨n, hn, hle⟩ => ⟨n, hn, by simp at hle ⊢; omega⟩)
    rw [List.map_cons, runInstrs_cons_of_next (exec_pushBack_of_room hrun hroom g), hrest, State.setFifo_du_fifo,
      List.append_assoc]
    rfl

theorem runInstrs_advance_true (k : Nat) {s : State} (hrun : s.du.run = .running) :
    ∃ t, runInstrs (List.replicate k (.advance true)) s = .next t ∧ t.du.fifo = s.du.fifo.drop k ∧
      t.du.status = s.du.status ∧ t.du.trace = s.du.trace := by
  induction k generalizing s with
  | zero => exact ⟨s, rfl, rfl, rfl, rfl⟩
  | succ k ih =>
    obtain ⟨t, ht, hfifo, hstatus, htrace⟩ := ih (s := driveFront (advance true s)) hrun
    refine ⟨t, ?_, ?_, hstatus, htrace⟩
    · rw [List.replicate_succ, runInstrs_cons_of_next (exec_advance_of_running hrun true), ht]
    · rw [hfifo, driveFront_du_fifo, advance_true, State.setFifo_du_fifo, List.drop_drop, Nat.add_comm]

/-- Settles O13: the pushes append the list, and each pop takes the front off. -/
theorem ordinaryGridsLeaveInOrder : Obligations.OrdinaryGridsLeaveInOrder := by
  unfold Obligations.OrdinaryGridsLeaveInOrder
  intro gs k s hrun hdepth
  obtain ⟨t, ht, hpopped⟩ := runInstrs_advance_true k (s := s.setFifo (s.du.fifo ++ gs)) hrun
  exact ⟨t, (runInstrs_append (runInstrs_pushBack hrun hdepth)).trans ht, hpopped⟩

end Sys2Proof.Machine
end

section
/-!
PROOFS, family other: the tick's interval (R231, R234) and the host's instructions (R202 to R209).
-/

namespace Sys2Proof.Machine

/-! The time between two commands, whatever the wrap-around of the time source between them (R311). -/

theorem elapsed_clock_add (now : Time) {d : Nat} {s : State} (hd : d < 2 ^ s.cfg.timeWidth) :
    elapsed s.cfg (s.clock (now + d)) (s.clock now) = d := by
  have hwrap : ((s.clock (now + d) : Int) - (s.clock now : Int)) % ((2 ^ s.cfg.timeWidth : Nat) : Int) =
      (d : Int) % ((2 ^ s.cfg.timeWidth : Nat) : Int) := by
    simp only [State.clock, Int.natCast_emod, Int.emod_sub_emod, Int.sub_emod_emod, Nat.cast_add, add_sub_cancel_left]
  rw [elapsed, hwrap, ← Int.natCast_emod, Int.toNat_natCast, Nat.mod_eq_of_lt hd]

/-- Settles O24: a fire sets the tick's register to its own time, and the time elapsed at the next check is `d`. -/
theorem tickFiresOncePerInterval : Obligations.TickFiresOncePerInterval := by
  unfold Obligations.TickFiresOncePerInterval
  intro now d s hrun hd hdue
  have hfires : tickFires (s.clock now) s = true := (tickFires_iff _ s).mpr hdue
  let fired : State := (s.setTickLastFire (s.clock now)).setOut .du { s.du.out with fire := some true }
  have hnext : tickFires (fired.clock (now + d)) fired = decide (s.cfg.tickInterval ≤ d) :=
    congrArg (fun e => decide (s.cfg.tickInterval ≤ e)) (elapsed_clock_add now hd)
  exact ⟨fired, _, exec_tickCheck_of_fires hrun hfires, rfl, exec_tickCheck_of_running (s := fired) hrun (now + d),
    congrArg some hnext⟩

/-! ALERT_POST (R207). -/

theorem labelInType_labelIn (s : State) (lab : Label) : LabelInType s.cfg.labels (s.labelIn lab) := by
  obtain ⟨n, hn, hlab⟩ | ⟨hcountable, hlab⟩ := labelIn_cases s lab
  · rw [hn, hlab]; exact Nat.le_of_lt_succ (Nat.mod_lt _ n.succ_pos)
  · rw [hcountable]; trivial

theorem labelIn_of_inType {s : State} {lab : Label} (h : LabelInType s.cfg.labels lab) : s.labelIn lab = lab := by
  obtain ⟨n, hn, hlab⟩ | ⟨-, hlab⟩ := labelIn_cases s lab
  · rw [hn] at h
    rw [hlab, Nat.mod_eq_of_lt (Nat.lt_succ_of_le h)]
  · exact hlab

/-- Settles O25: the label on the port is of its type, and a value of the type is unchanged by it. -/
theorem alertPostReplacesTheMailbox : Obligations.AlertPostReplacesTheMailbox := by
  unfold Obligations.AlertPostReplacesTheMailbox
  exact fun lab s hrun => ⟨s.labelIn lab, labelInType_labelIn s lab, labelIn_of_inType,
    exec_of_running (i := .alertPost lab) hrun⟩

/-! The phase check (R209, R275). -/

theorem whenPolling_of_capture {s : State} (f : State → State) (h : s.host.phase = .capture) :
    whenPolling f s = raiseError .host .illegalCommand s := by simp [whenPolling, h]

theorem captureDone_of_polling {s : State} (h : s.host.phase = .polling) (err : Bool) (cells : List Cell) (t : Time) :
    captureDone err cells t s = raiseError .host .illegalCommand s := by simp [captureDone, h]

theorem raiseIllegal_host_eq (s : State) : raiseError .host .illegalCommand s =
    { s with host := { s.host with
      status := s.host.status ||| HOST_ILL, trace := s.host.trace ++ [.error .illegalCommand] } } :=
  raiseError_host_eq s (by decide)

/-- Settles O30: each of these instructions has the phase check, whose answer in the other phase is IllegalCommand. -/
theorem commandsOfTheOtherPhaseAreIllegal : Obligations.CommandsOfTheOtherPhaseAreIllegal := by
  unfold Obligations.CommandsOfTheOtherPhaseAreIllegal
  intro now err cells s hrun ill
  have hill : raiseError .host .illegalCommand s = ill := raiseIllegal_host_eq s
  rw [exec_of_running (i := .hostPoll now) hrun, exec_of_running (i := .opIdle now) hrun,
    exec_of_running (i := .opSend now) hrun, exec_of_running (i := .opGrade2 now) hrun,
    exec_of_running (i := .opGrade1 now) hrun, exec_of_running (i := .captureDone err cells now) hrun]
  simp only [effect, hostPoll]
  refine ⟨fun hcapture => ?capture, fun hpolling => ?polling⟩
  case capture => simp only [whenPolling_of_capture _ hcapture, hill, and_self]
  case polling => rw [captureDone_of_polling hpolling, hill]

/-! The opcodes while POLLING, as the dispatcher's rules (R202 to R205). -/

section Polling

variable {s : State} (hrun : s.host.run = .running) (hphase : s.host.phase = .polling)
include hrun hphase

theorem exec_opIdle_of_polling (now : Time) : exec (.opIdle now) s = .next (opIdle (s.clock now) s) :=
  exec_decodeOpcode_code_of_polling hrun hphase .idle { now := now }

theorem exec_opSend_of_polling (now : Time) : exec (.opSend now) s = .next (opSend (s.clock now) s) :=
  exec_decodeOpcode_code_of_polling hrun hphase .send { now := now }

theorem exec_opGrade2_of_polling (now : Time) : exec (.opGrade2 now) s = .next (opGrade2 (s.clock now) s) :=
  exec_decodeOpcode_code_of_polling hrun hphase .grade2 { now := now }

theorem exec_opGrade1_of_polling (now : Time) : exec (.opGrade1 now) s = .next (opGrade1 (s.clock now) s) :=
  exec_decodeOpcode_code_of_polling hrun hphase .grade1 { now := now }

end Polling

/-- Settles O26: the three rules as records. -/
theorem nonIdleOpcodes : Obligations.NonIdleOpcodes := by
  unfold Obligations.NonIdleOpcodes
  exact fun now s hrun hphase => ⟨exec_opSend_of_polling hrun hphase now, exec_opGrade2_of_polling hrun hphase now,
    exec_opGrade1_of_polling hrun hphase now⟩

/-! OP_IDLE (R205, R206, R208). -/

theorem sendAlert_of_not_pending {s : State} (h : s.host.mailbox.pending = false) : sendAlert s = s := by
  have hcleared : alertTake s = s := by simp only [alertTake, ← h]; rfl
  simpa [sendAlert, pendingAlert, h] using hcleared

theorem sendAlert_of_pending {s : State} (h : s.host.mailbox.pending = true) :
    sendAlert s = txWrite .host (alertFrame s s.host.mailbox.label) (alertTake s) := by
  simp [sendAlert, pendingAlert, h]

theorem idleCheck_of_due {t : Time} {s : State} (h : s.cfg.idleRecalInterval ≤ elapsed s.cfg t s.host.idleStart) :
    idleCheck t s = { s with host := { s.host with idleStart := t, trace := s.host.trace ++ [.recalRequest] } } := by
  simp [idleCheck, recalDue, h, State.emit, State.setIdleStart]

theorem idleCheck_of_not_due {t : Time} {s : State} (h : elapsed s.cfg t s.host.idleStart < s.cfg.idleRecalInterval) :
    idleCheck t s = s := by
  simp [idleCheck, recalDue, h]

/-- Settles O27: without an alert OP_IDLE is the idle check alone. -/
theorem idleOpcodeWithoutAlert : Obligations.IdleOpcodeWithoutAlert := by
  unfold Obligations.IdleOpcodeWithoutAlert
  intro now s hrun hphase hpending
  rw [exec_opIdle_of_polling hrun hphase, opIdle, sendAlert_of_not_pending hpending]
  exact ⟨fun hearly => by rw [idleCheck_of_not_due hearly], fun hdue => by rw [idleCheck_of_due hdue]⟩

/-- The idle check in both cases at once: what it writes to the timer and what it emits. -/
theorem idleCheck_eq (t : Time) (s : State) :
    idleCheck t s = { s with host := { s.host with
      idleStart := if s.cfg.idleRecalInterval ≤ elapsed s.cfg t s.host.idleStart then t else s.host.idleStart
      trace := s.host.trace ++
        if s.cfg.idleRecalInterval ≤ elapsed s.cfg t s.host.idleStart then [.recalRequest] else [] } } := by
  by_cases h : s.cfg.idleRecalInterval ≤ elapsed s.cfg t s.host.idleStart
  · rw [idleCheck_of_due h]; simp [h]
  · rw [idleCheck_of_not_due (by omega)]; simp [h]

/-- Settles O28: the alert's write, successful or not, then the idle check on the state it leaves. -/
theorem idleOpcodeSendsThePendingAlert : Obligations.IdleOpcodeSendsThePendingAlert := by
  unfold Obligations.IdleOpcodeSendsThePendingAlert
  intro now s hrun hphase hpending frame due idleStart' recal
  have hanswer : nextAnswer (alertTake s) = nextAnswer s := nextAnswer_congr rfl
  have henv : (takeAnswer (alertTake s)).env = (takeAnswer s).env := takeAnswer_env_congr rfl
  rw [exec_opIdle_of_polling hrun hphase, opIdle, sendAlert_of_pending hpending, idleCheck_eq]
  refine ⟨fun hok => ?written, fun n hn hfailed => ?failed⟩
  case written =>
    rw [txWrite_host_ok _ (hanswer.trans hok), henv]
    simp only [List.append_assoc]
    rfl
  case failed =>
    have hlength : (alertFrame s s.host.mailbox.label).length = 74 := frameBytes_length _ _
    rw [txWrite_host_failed _ (hanswer.trans hfailed), hlength, sentBytes_of_lt hn, henv]
    simp only [List.append_assoc]
    rfl

/-! Control lines as instructions (R200, R209). -/

theorem pollOneLine_of_polling {s : State} (hphase : s.host.phase = .polling) (l : Line) (t : Time) :
    pollOneLine l t s = actOnLines [l] t s := whenPolling_of_polling _ hphase

theorem pollOneLine_of_capture {s : State} (hphase : s.host.phase = .capture) (l : Line) (t : Time) :
    pollOneLine l t s = raiseError .host .illegalCommand s := whenPolling_of_capture _ hphase

/-- Settles O32: a control line is a host poll of that one line; while POLLING it acts on the line's opcode. -/
theorem controlLinesRunTheirOpcode : Obligations.ControlLinesRunTheirOpcode := by
  unfold Obligations.ControlLinesRunTheirOpcode
  intro now s hrun
  rw [exec_of_running (i := .ctrlSend now) hrun, exec_of_running (i := .ctrlTrue now) hrun,
    exec_of_running (i := .ctrlFalse now) hrun]
  simp only [effect]
  refine ⟨fun hpolling => ?polling, fun hcapture => ?capture⟩
  case polling =>
    simp only [pollOneLine_of_polling hpolling]
    exact ⟨rfl, rfl, rfl⟩
  case capture =>
    simp only [pollOneLine_of_capture hcapture, raiseIllegal_host_eq]
    exact ⟨rfl, rfl, rfl⟩

end Sys2Proof.Machine
end

section
/-!
PROOFS, family other: the step. The next turn is taken and performed; what stands at a port is an instruction that is executed
or a rejected word or line with the effect R88 and R93 give it.
-/

namespace Sys2Proof.Machine

/-! Performing a turn. -/

theorem perform_of_decode_ok {p : Presented} {i : Instr} (h : decode p = .ok i) (s : State) :
    perform (.present p) s = exec i (invalidatePorts p.unit s) := by simp [perform, h]

theorem perform_of_decode_error {p : Presented} {r : Reject} (h : decode p = .error r) (s : State) :
    perform (.present p) s = .next (actOnReject p (invalidatePorts p.unit s)) := by simp [perform, h]

theorem perform_encode {i : Instr} (hi : i.wellFormed = true) (s : State) :
    perform (.present (encode i)) s = exec i (invalidatePorts (encode i).unit s) :=
  perform_of_decode_ok (decodeOfEncodeIsIdentity i hi) s

theorem perform_cases (t : Turn) (s : State) :
    (∃ l noise, t = .link l noise ∧ perform t s = .next (linkStep l noise s)) ∨
    (∃ p i, t = .present p ∧ perform t s = exec i (invalidatePorts p.unit s)) ∨
    (∃ p r, t = .present p ∧ decode p = .error r ∧
      perform t s = .next (actOnReject p (invalidatePorts p.unit s))) := by
  cases t with
  | link l noise => exact .inl ⟨l, noise, rfl, rfl⟩
  | present p =>
    cases h : decode p with
    | ok i => exact .inr (.inl ⟨p, i, rfl, perform_of_decode_ok h s⟩)
    | error r => exact .inr (.inr ⟨p, r, rfl, h, perform_of_decode_error h s⟩)

/-! The step by its schedule. -/

theorem step_of_schedule {s : State} {t : Turn} {rest : List Turn} (h : s.env.schedule = t :: rest) :
    step s = perform t { s with env := { s.env with schedule := rest } } := by
  simp [step, nextTurn, takeTurn, h, State.setEnv]

theorem step_of_no_schedule {s : State} (h : s.env.schedule = []) :
    step s = perform (agentTurn (Config.loopTurn s.env.draws) s)
      { s with env := { s.env with draws := s.env.draws + 1 } } := by
  simp [step, nextTurn, takeTurn, h, State.setEnv]

/-- Settles O44: a scheduled turn that decodes is its instruction, a LINK turn its LINK step. -/
theorem stepRunsTheDecodedInstruction : Obligations.StepRunsTheDecodedInstruction := by
  unfold Obligations.StepRunsTheDecodedInstruction
  refine fun rest s => ⟨fun p i hturn hdecode => ?instruction, fun l noise hturn => step_of_schedule hturn⟩
  rw [step_of_schedule hturn, perform_of_decode_ok hdecode]
  exact ⟨fun hp => by rw [hp]; rfl, fun hp => by rw [hp]; rfl⟩

/-- Settles O45: the agent's own turn is the encoding of a well-formed instruction, so performing it is that instruction. -/
theorem stepWithoutScheduleRunsALoop : Obligations.StepWithoutScheduleRunsALoop := by
  unfold Obligations.StepWithoutScheduleRunsALoop
  intro s hschedule s' atDu atHost
  rw [step_of_no_schedule hschedule]
  cases Config.loopTurn s.env.draws with
  | du now pins => exact perform_encode (i := .duPoll now pins) rfl s'
  | host now err cells =>
    cases hphase : s.host.phase with
    | polling =>
      simp only [agentTurn, hphase, if_true]
      exact perform_encode (i := .hostPoll now) rfl s'
    | capture =>
      simp only [agentTurn, hphase, reduceCtorEq, if_false]
      exact perform_encode (i := .captureDone err cells now) rfl s'
  | alert lab => exact perform_encode (i := .alertPost lab) rfl s'
  | link l noise => rfl
  | reset u now ok =>
    cases u with
    | du => exact perform_encode (i := .reset .du now ok) rfl s'
    | host => exact perform_encode (i := .reset .host now ok) rfl s'

/-! Rejected words and lines. -/

/-- The state at which a unit meets what a scheduled turn presents to it: the turn taken, its result ports not yet valid. -/
def presentedAt (u : UnitId) (rest : List Turn) (s : State) : State :=
  invalidatePorts u { s with env := { s.env with schedule := rest } }

@[simp] theorem presentedAt_runOf (u : UnitId) (rest : List Turn) (s : State) :
    (presentedAt u rest s).runOf u = s.runOf u := by cases u <;> rfl

theorem step_of_rejected {s : State} {p : Presented} {rest : List Turn} {r : Reject}
    (hturn : s.env.schedule = .present p :: rest) (hdecode : decode p = .error r) :
    step s = .next (actOnReject p (presentedAt p.unit rest s)) := by
  rw [step_of_schedule hturn, perform_of_decode_error hdecode, presentedAt]

theorem raiseIllegal_du_eq (s : State) : raiseError .du .illegalCommand s =
    { s with du := { s.du with
      status := s.du.status ||| DU_ILL, trace := s.du.trace ++ [.error .illegalCommand] } } :=
  raiseError_du_eq s (by decide)

theorem actOnReject_command {u : UnitId} {s : State} (hrun : s.runOf u = .running) (cw : BitVec 16) (d : Inputs) :
    actOnReject (.command u cw d) s = raiseError u .illegalCommand s := whenRunning_of_running _ hrun

theorem not_validFrameLine_of_rejected {l : Line} {d : Inputs} {r : Reject} (h : decode (.line .du l d) = .error r) :
    ¬ ValidFrameLine l := by
  intro hvalid
  obtain ⟨i, hi⟩ := (validLinesAreExactlyFrames l d).1.mp hvalid
  cases hi.symm.trans h

theorem actOnReject_duLine {l : Line} {d : Inputs} {s : State} (hl : ¬ ValidFrameLine l) (hrun : s.du.run = .running) :
    actOnReject (.line .du l d) s = { s with du := { s.du with
      status := s.du.status ||| DU_MALF
      trace := s.du.trace ++ [.logMalformed l, .error .malformedFrame] } } :=
  (whenRunning_of_running (u := .du) _ hrun).trans (rxFrame_of_not_valid hl s)

theorem cdec_of_rejected {l : Line} {d : Inputs} {r : Reject} (h : decode (.line .host l d) = .error r) :
    cdec l = .idle := by
  simp only [decode, decodeHostLine] at h
  split at h
  case h_4 hidle => exact hidle
  all_goals cases h

theorem selectOpcode_of_idle {l : Line} (h : cdec l = .idle) : selectOpcode [l] = .idle := by
  cases l with
  | nil => rfl
  | cons b bs => simpa [selectOpcode] using h

theorem actOnReject_hostLine {s : State} (hrun : s.host.run = .running) (l : Line) (d : Inputs) :
    actOnReject (.line .host l d) s = pollOneLine l (s.clock d.now) s :=
  whenRunning_of_running (u := .host) (fun s => pollOneLine l (s.clock d.now) s) hrun

theorem actOnReject_of_fatal {p : Presented} {s : State} (h : s.runOf p.unit = .fatal) : actOnReject p s = s := by
  obtain ⟨u, cw, d, rfl, hact⟩ | ⟨op, d, rfl, hact⟩ | ⟨l, d, rfl, hact⟩ | ⟨l, d, rfl, hact⟩ := actOnReject_cases p s
  · exact hact.trans (whenRunning_of_fatal _ h)
  · exact hact
  · exact hact.trans (whenRunning_of_fatal _ h)
  · exact hact.trans (whenRunning_of_fatal _ h)

/-- Settles O46: a rejected word is IllegalCommand; a rejected line is no frame at the DU and the idle opcode at the host; a
FATAL unit does nothing with any of them. -/
theorem nonInstructionsHaveTheirEffect : Obligations.NonInstructionsHaveTheirEffect := by
  unfold Obligations.NonInstructionsHaveTheirEffect
  intro r rest s taken
  refine ⟨fun cw d => ⟨fun hturn hrejected hrun => ?duWord, fun hturn hrejected hrun => ?hostWord⟩,
    fun l d => ⟨fun hturn hrejected hrun => ?duLine,
      fun hturn hrejected hrun => ⟨fun hphase => ?polling, fun hphase => ?capture⟩⟩,
    fun p hturn hrejected hfatal => ?fatal⟩
  case duWord =>
    exact (step_of_rejected hturn hrejected).trans (congrArg _
      ((actOnReject_command (u := .du) (s := presentedAt .du rest s) hrun cw d).trans (raiseIllegal_du_eq _)))
  case hostWord =>
    exact (step_of_rejected hturn hrejected).trans (congrArg _
      ((actOnReject_command (u := .host) (s := presentedAt .host rest s) hrun cw d).trans (raiseIllegal_host_eq _)))
  case duLine =>
    exact (step_of_rejected hturn hrejected).trans (congrArg _
      (actOnReject_duLine (s := presentedAt .du rest s) (not_validFrameLine_of_rejected hrejected) hrun))
  case polling =>
    have hact := actOnReject_hostLine (s := presentedAt .host rest s) hrun l d
    rw [pollOneLine_of_polling (s := presentedAt .host rest s) hphase, actOnLines,
      selectOpcode_of_idle (cdec_of_rejected hrejected)] at hact
    exact ⟨_, (step_of_rejected hturn hrejected).trans (congrArg _ hact),
      exec_opIdle_of_polling (s := (presentedAt .host rest s).setLastOp .idle) hrun hphase d.now⟩
  case capture =>
    have hact := actOnReject_hostLine (s := presentedAt .host rest s) hrun l d
    rw [pollOneLine_of_capture (s := presentedAt .host rest s) hphase, raiseIllegal_host_eq] at hact
    exact (step_of_rejected hturn hrejected).trans (congrArg _ hact)
  case fatal =>
    have hstep : step s = .next (presentedAt p.unit rest s) := by
      rw [step_of_rejected hturn hrejected, actOnReject_of_fatal (by simpa using hfatal)]
    exact ⟨fun hp => by rw [hstep, hp]; rfl, fun hp => by rw [hstep, hp]; rfl⟩

/-- Settles O47: a turn is a LINK step, an instruction or a rejected word or line, and each of these has a next state. -/
theorem everyStepAnswers : Obligations.EveryStepAnswers := by
  unfold Obligations.EveryStepAnswers
  intro s
  obtain ⟨l, noise, -, h⟩ | ⟨p, i, -, h⟩ | ⟨p, r, -, -, h⟩ := perform_cases (nextTurn s) (takeTurn s)
  · exact ⟨_, h⟩
  · obtain ⟨t, ht⟩ := exists_exec i (invalidatePorts p.unit (takeTurn s))
    exact ⟨t, h.trans ht⟩
  · exact ⟨_, h⟩

end Sys2Proof.Machine
end

section
/-!
PROOFS, family other: debounce. A POLL's next state as a record, in either scope: inside the window, sampled without a press,
and sampled with a press of each channel (R141 to R146); from these the double toggle (R152) and the quiet DU_POLL (R244).
-/

namespace Sys2Proof.Machine

/-! A sample and the opening of the window, as records. -/

/-- The pin of channel `i` sampled at level `p`, which leaves the channel in the phase `ph` (R141). -/
def sampled (i : Channel) (ph : Phase) (p : Bool) (s : State) : State := setPhase i ph (setRaw i p (closeWindow i s))

theorem sampled_perChannel {s : State} (h : s.cfg.settleScope = .perChannel) (i : Channel) (ph : Phase) (p : Bool) :
    sampled i ph p s = { s with du := { s.du with
      ch := s.du.ch.set i { s.du.ch.get i with phase := ph, raw := p, settling := false } } } := by
  simp [sampled, setPhase, setRaw, closeWindow, h, State.setChannel]

theorem sampled_global {s : State} (h : s.cfg.settleScope = .global) (i : Channel) (ph : Phase) (p : Bool) :
    sampled i ph p s = { s with du := { s.du with
      ch := s.du.ch.set i { s.du.ch.get i with phase := ph, raw := p }
      gsettle := { s.du.gsettle with active := false } } } := by
  simp [sampled, setPhase, setRaw, closeWindow, h, State.setChannel, State.setGsettle]

theorem openWindow_perChannel {s : State} (h : s.cfg.settleScope = .perChannel) (i : Channel) (t : Time) :
    openWindow i t s = { s with du := { s.du with
      ch := s.du.ch.set i { s.du.ch.get i with settling := true, settleStart := t } } } := by
  simp [openWindow, h, State.setChannel]

theorem openWindow_global {s : State} (h : s.cfg.settleScope = .global) (i : Channel) (t : Time) :
    openWindow i t s = { s with du := { s.du with gsettle := { active := true, start := t } } } := by
  simp [openWindow, h, State.setGsettle]

/-- A press before its control line: sampled, with its pulse, and the window opened (R141, R144). -/
def pressOpened (i : Channel) (t : Time) (s : State) : State :=
  openWindow i t ((sampled i .pressed false (s.setPulse i false)).setPulse i true)

theorem pressOpened_perChannel {s : State} (h : s.cfg.settleScope = .perChannel) (i : Channel) (t : Time) :
    pressOpened i t s = { s with du := { s.du with
      ch := s.du.ch.set i { phase := .pressed, raw := false, settling := true, settleStart := t }
      pulse := s.du.pulse.set i true } } := by
  rw [pressOpened, sampled_perChannel (s := s.setPulse i false) h, openWindow_perChannel (by exact h)]
  simp [State.setPulse]

theorem pressOpened_global {s : State} (h : s.cfg.settleScope = .global) (i : Channel) (t : Time) :
    pressOpened i t s = { s with du := { s.du with
      ch := s.du.ch.set i { s.du.ch.get i with phase := .pressed, raw := false }
      gsettle := { active := true, start := t }
      pulse := s.du.pulse.set i true } } := by
  rw [pressOpened, sampled_global (s := s.setPulse i false) h, openWindow_global (by exact h)]
  simp [State.setPulse]

@[simp] theorem pressOpened_env (i : Channel) (t : Time) (s : State) : (pressOpened i t s).env = s.env := by
  cases h : s.cfg.settleScope with
  | perChannel => rw [pressOpened_perChannel h]
  | global => rw [pressOpened_global h]

@[simp] theorem pressOpened_modeFlag (i : Channel) (t : Time) (s : State) :
    (pressOpened i t s).du.modeFlag = s.du.modeFlag := by
  cases h : s.cfg.settleScope with
  | perChannel => rw [pressOpened_perChannel h]
  | global => rw [pressOpened_global h]

/-! The three outcomes of a POLL. -/

theorem windowOpen_eq_false {i : Channel} {t : Time} {s : State} (h : ¬ SettleWindowOpen i t s) :
    windowOpen i t s = false := by simpa [settleWindowOpen_iff] using h

theorem setPhase_of_phase_eq {i : Channel} {ph : Phase} {s : State} (h : (s.du.ch.get i).phase = ph) :
    setPhase i ph s = s := by
  have hsame : { s.du.ch.get i with phase := ph } = s.du.ch.get i := by rw [← h]
  rw [setPhase, hsame, State.setChannel, ByChannel.set_get]

theorem pollChannel_of_no_press {i : Channel} {p : Bool} {t : Time} {s : State} (hclosed : ¬ SettleWindowOpen i t s)
    (h : (s.du.ch.get i).phase = .pressed ∨ p = true) :
    pollChannel i p t s = sampled i (if p then .released else .pressed) p (s.setPulse i false) := by
  rw [pollChannel_of_closed p (windowOpen_eq_false hclosed)]
  split
  next hphase => simp [hphase] at h
  next => rfl
  next hphase => exact (setPhase_of_phase_eq (by simpa using hphase)).symm
  next hphase => exact (setPhase_of_phase_eq (by simpa using hphase)).symm

/-! A press, by its channel's control line (R146). -/

/-- The bytes MODE sends when its flag is `flag`: the flag's control line and LF. -/
def flagBytes (flag : Bool) : List Byte := (if flag then lineTrue else lineFalse) ++ [LF]

theorem flagBytes_not (flag : Bool) : flagBytes (!flag) = (if flag then lineFalse else lineTrue) ++ [LF] := by
  cases flag <;> rfl

section Press

variable {t : Time} {s : State}

theorem pollChannel_press_next (hclosed : ¬ SettleWindowOpen .next t s) (h : s.du.ch.next.phase = .released) :
    pollChannel .next false t s = pressOpened .next t s := pollChannel_of_press (windowOpen_eq_false hclosed) h

theorem pollChannel_press_send (hclosed : ¬ SettleWindowOpen .send t s) (h : s.du.ch.send.phase = .released) :
    pollChannel .send false t s = txWrite .du (lineSend ++ [LF]) (pressOpened .send t s) :=
  pollChannel_of_press (windowOpen_eq_false hclosed) h

theorem pollChannel_press_mode (hclosed : ¬ SettleWindowOpen .mode t s) (h : s.du.ch.mode.phase = .released) :
    pollChannel .mode false t s =
      txWrite .du (flagBytes (!s.du.modeFlag)) (modeToggle (pressOpened .mode t s)) := by
  rw [← pressOpened_modeFlag .mode t s]
  exact pollChannel_of_press (windowOpen_eq_false hclosed) h

end Press

/-- A sampled press, by channel: SEND and MODE send their control line, NEXT sends nothing (R141, R146). -/
def press (i : Channel) (t : Time) (s : State) : State :=
  match i with
  | .send => txWrite .du (lineSend ++ [LF]) (pressOpened .send t s)
  | .mode => txWrite .du (flagBytes (!s.du.modeFlag)) (modeToggle (pressOpened .mode t s))
  | .next => pressOpened .next t s

/-- POLL of one channel as one equation: the pulse ends inside the window; outside it there is a press, or a sample alone. -/
theorem pollChannel_eq (i : Channel) (p : Bool) (t : Time) (s : State) : pollChannel i p t s =
    if windowOpen i t s then s.setPulse i false
    else if (s.du.ch.get i).phase = .released ∧ p = false then press i t s
    else sampled i (if p then .released else .pressed) p (s.setPulse i false) := by
  split
  next hopen => exact pollChannel_of_open p hopen
  next hclosed =>
    rw [← settleWindowOpen_iff] at hclosed
    split
    next hpress =>
      obtain ⟨hreleased, rfl⟩ := hpress
      cases i with
      | send => exact pollChannel_press_send hclosed hreleased
      | mode => exact pollChannel_press_mode hclosed hreleased
      | next => exact pollChannel_press_next hclosed hreleased
    next hquiet =>
      refine pollChannel_of_no_press hclosed ?_
      cases hphase : (s.du.ch.get i).phase with
      | pressed => exact .inl rfl
      | released => exact .inr (by simpa [hphase] using hquiet)

/-- Settles O14: only the pulse ends. -/
theorem pollInsideTheWindowSamplesNothing : Obligations.PollInsideTheWindowSamplesNothing := by
  unfold Obligations.PollInsideTheWindowSamplesNothing
  intro i p now s hrun hopen
  rw [exec_poll_of_running hrun, polled, pollChannel_of_open p ((settleWindowOpen_iff i _ s).mp hopen)]
  simp [drivePulse, State.setOut, State.setPulse]

/-- Settles O15: the sample with the phase that its level gives. -/
theorem sampledPollWithoutPress : Obligations.SampledPollWithoutPress := by
  unfold Obligations.SampledPollWithoutPress
  intro i p now s hrun hclosed hquiet phase'
  rw [exec_poll_of_running hrun, polled, pollChannel_of_no_press hclosed hquiet]
  refine ⟨fun hscope => ?_, fun hscope => ?_⟩
  · rw [sampled_perChannel (s := s.setPulse i false) hscope]
    simp [drivePulse, State.setOut, State.setPulse, phase']
  · rw [sampled_global (s := s.setPulse i false) hscope]
    simp [drivePulse, State.setOut, State.setPulse, phase']

/-- Settles O16: NEXT has no control line. -/
theorem pressOfNextPulsesAndSendsNothing : Obligations.PressOfNextPulsesAndSendsNothing := by
  unfold Obligations.PressOfNextPulsesAndSendsNothing
  intro now s hrun hclosed hreleased
  have hexec := exec_poll_of_running hrun .next false now
  rw [polled, pollChannel_press_next hclosed hreleased] at hexec
  refine ⟨fun hscope => hexec.trans ?_, fun hscope => hexec.trans ?_⟩
  · rw [pressOpened_perChannel hscope]; rfl
  · rw [pressOpened_global hscope]; rfl

theorem exec_press_send {s : State} (hrun : s.du.run = .running) {now : Time}
    (hclosed : ¬ SettleWindowOpen .send (s.clock now) s) (hreleased : s.du.ch.send.phase = .released) :
    exec (.poll 0#2 false now) s =
      .next (drivePulse .send (txWrite .du (lineSend ++ [LF]) (pressOpened .send (s.clock now) s))) := by
  rw [← pollChannel_press_send hclosed hreleased]
  exact exec_poll_of_running hrun .send false now

theorem exec_press_mode {s : State} (hrun : s.du.run = .running) {now : Time}
    (hclosed : ¬ SettleWindowOpen .mode (s.clock now) s) (hreleased : s.du.ch.mode.phase = .released) :
    exec (.poll 1#2 false now) s = .next (drivePulse .mode
      (txWrite .du (flagBytes (!s.du.modeFlag)) (modeToggle (pressOpened .mode (s.clock now) s)))) := by
  rw [← pollChannel_press_mode hclosed hreleased]
  exact exec_poll_of_running hrun .mode false now

section Answers

variable (i : Channel) (t : Time) (s : State)

theorem nextAnswer_pressOpened : nextAnswer (pressOpened i t s) = nextAnswer s := nextAnswer_congr (by simp)

theorem takeAnswer_env_pressOpened : (takeAnswer (pressOpened i t s)).env = (takeAnswer s).env :=
  takeAnswer_env_congr (by simp)

theorem nextAnswer_modeToggle : nextAnswer (modeToggle s) = nextAnswer s := nextAnswer_congr rfl

theorem takeAnswer_env_modeToggle : (takeAnswer (modeToggle s)).env = (takeAnswer s).env := takeAnswer_env_congr rfl

end Answers

/-- Settles O17: the press, then the whole of `SEND` LF. -/
theorem pressOfSendSendsSend : Obligations.PressOfSendSendsSend := by
  unfold Obligations.PressOfSendSendsSend
  intro now s hrun hclosed hreleased hok
  rw [exec_press_send hrun hclosed hreleased, txWrite_du_ok _ ((nextAnswer_pressOpened ..).trans hok),
    takeAnswer_env_pressOpened]
  refine ⟨fun hscope => ?_, fun hscope => ?_⟩
  · rw [pressOpened_perChannel hscope]; rfl
  · rw [pressOpened_global hscope]; rfl

theorem modeToggle_eq (s : State) : modeToggle s = { s with du := { s.du with
    modeFlag := !s.du.modeFlag, trace := s.du.trace ++ [.renderMode (!s.du.modeFlag)] } } := rfl

/-- Settles O18: the press, the toggle, then the whole of the new flag's line. -/
theorem pressOfModeTogglesAndSendsTheFlag : Obligations.PressOfModeTogglesAndSendsTheFlag := by
  unfold Obligations.PressOfModeTogglesAndSendsTheFlag
  intro now s hrun hclosed hreleased hok line
  have hanswer := (nextAnswer_modeToggle _).trans ((nextAnswer_pressOpened .mode (s.clock now) s).trans hok)
  rw [exec_press_mode hrun hclosed hreleased, txWrite_du_ok _ hanswer, takeAnswer_env_modeToggle,
    takeAnswer_env_pressOpened, flagBytes_not, modeToggle_eq]
  simp only [List.append_assoc, List.cons_append, List.nil_append]
  refine ⟨fun hscope => ?_, fun hscope => ?_⟩
  · rw [pressOpened_perChannel hscope]; rfl
  · rw [pressOpened_global hscope]; rfl

/-- Settles O19: as a press whose write succeeds, but that a prefix is sent and TransportWriteFailure raised. -/
theorem pressWithAFailedWrite : Obligations.PressWithAFailedWrite := by
  unfold Obligations.PressWithAFailedWrite
  intro now n s hrun hfailed
  refine ⟨fun hclosed hreleased hn => ?send, fun hclosed hreleased => ?mode⟩
  case send =>
    have hanswer := (nextAnswer_pressOpened .send (s.clock now) s).trans hfailed
    have hsent : (lineSend ++ [LF]).take (sentBytes n (lineSend ++ [LF]).length) = lineSend.take n := by
      rw [sentBytes_of_lt (len := (lineSend ++ [LF]).length) hn]
      exact List.take_append_of_le_length (Nat.le_of_lt_succ hn)
    rw [exec_press_send hrun hclosed hreleased, txWrite_du_failed _ hanswer, hsent, takeAnswer_env_pressOpened]
    refine ⟨fun hscope => ?_, fun hscope => ?_⟩
    · rw [pressOpened_perChannel hscope]; rfl
    · rw [pressOpened_global hscope]; rfl
  case mode =>
    intro line hn
    have hanswer := (nextAnswer_modeToggle _).trans ((nextAnswer_pressOpened .mode (s.clock now) s).trans hfailed)
    have hline : flagBytes (!s.du.modeFlag) = line := flagBytes_not _
    rw [exec_press_mode hrun hclosed hreleased, hline, txWrite_du_failed _ hanswer, sentBytes_of_lt hn,
      takeAnswer_env_modeToggle, takeAnswer_env_pressOpened, modeToggle_eq]
    simp only [List.append_assoc, List.cons_append, List.nil_append]
    refine ⟨fun hscope => ?_, fun hscope => ?_⟩
    · rw [pressOpened_perChannel hscope]; rfl
    · rw [pressOpened_global hscope]; rfl

/-! Press and release of MODE, twice (R152). -/

theorem not_settleWindowOpen_of_not_settling {i : Channel} {t : Time} {s : State}
    (hscope : s.cfg.settleScope = .perChannel) (h : (s.du.ch.get i).settling = false) : ¬ SettleWindowOpen i t s := by
  simp [SettleWindowOpen, hscope, h]

theorem not_settleWindowOpen_of_elapsed {i : Channel} {t : Time} {s : State}
    (hscope : s.cfg.settleScope = .perChannel)
    (h : s.cfg.settleTime ≤ elapsed s.cfg t (s.du.ch.get i).settleStart) : ¬ SettleWindowOpen i t s := by
  simp [SettleWindowOpen, hscope, h]

/-- A press of MODE and its release after the window: the flag is toggled, its new value sent, and MODE is ready for the next
press. -/
theorem runInstrs_press_release_mode {s : State} {t1 t2 : Time} (hrun : s.du.run = .running)
    (hscope : s.cfg.settleScope = .perChannel) (hclosed : ¬ SettleWindowOpen .mode (s.clock t1) s)
    (hreleased : s.du.ch.mode.phase = .released)
    (hafter : s.cfg.settleTime ≤ elapsed s.cfg (s.clock t2) (s.clock t1)) (hok : nextAnswer s = .ok) :
    ∃ t, runInstrs [.poll 1#2 false t1, .poll 1#2 true t2] s = .next t ∧ t.du.run = .running ∧ t.cfg = s.cfg ∧
      t.du.ch.mode.phase = .released ∧ t.du.ch.mode.settling = false ∧ t.du.modeFlag = (!s.du.modeFlag) ∧
      t.linkDH = s.linkDH ++ flagBytes (!s.du.modeFlag) ∧ t.env = (takeAnswer s).env := by
  obtain ⟨u, hpress, hurun, hucfg, hustart, huflag, hulink, huenv⟩ :
      ∃ u, exec (.poll 1#2 false t1) s = .next u ∧ u.du.run = .running ∧ u.cfg = s.cfg ∧
        u.du.ch.mode.settleStart = s.clock t1 ∧ u.du.modeFlag = (!s.du.modeFlag) ∧
        u.linkDH = s.linkDH ++ flagBytes (!s.du.modeFlag) ∧ u.env = (takeAnswer s).env :=
    ⟨_, (pressOfModeTogglesAndSendsTheFlag t1 s hrun hclosed hreleased hok).1 hscope, hrun, rfl, rfl, rfl,
      by rw [flagBytes_not], rfl⟩
  have huclosed : ¬ SettleWindowOpen .mode (u.clock t2) u := by
    refine not_settleWindowOpen_of_elapsed (hucfg ▸ hscope) ?_
    rw [ByChannel.get, hustart, State.clock, hucfg]
    exact hafter
  have hrelease := (sampledPollWithoutPress .mode true t2 u hurun huclosed (.inr rfl)).1 (hucfg ▸ hscope)
  exact ⟨_, (runInstrs_cons_of_next hpress _).trans (runInstrs_cons_of_next (i := .poll 1#2 true t2) hrelease []), hurun,
    hucfg, rfl, rfl, huflag, hulink, huenv⟩

/-- Settles O22: two toggles are none, and each sends the value the flag then has. -/
theorem doubleToggleReturnsTheFlag : Obligations.DoubleToggleReturnsTheFlag := by
  unfold Obligations.DoubleToggleReturnsTheFlag
  rintro t1 t2 t3 t4 s hrun hscope hclosed hreleased hafter1 hafter2 ⟨rest, hanswers⟩
  have hok : nextAnswer s = .ok := by simp [nextAnswer, hanswers]
  obtain ⟨t, ht, hrun', hcfg, hreleased', hsettling, hflag, hlink, henv⟩ :=
    runInstrs_press_release_mode hrun hscope hclosed hreleased hafter1 hok
  have hok' : nextAnswer t = .ok := by simp [nextAnswer, henv, takeAnswer, hanswers]
  have hclock (now : Time) : t.clock now = s.clock now := by rw [State.clock, hcfg, State.clock]
  have hscope' : t.cfg.settleScope = .perChannel := hcfg ▸ hscope
  obtain ⟨u, hu, -, -, -, -, hflag', hlink', -⟩ := runInstrs_press_release_mode (t1 := t3) (t2 := t4) hrun' hscope'
    (not_settleWindowOpen_of_not_settling hscope' hsettling) hreleased' (by rw [hcfg, hclock, hclock]; exact hafter2) hok'
  refine ⟨u, (runInstrs_append (js := [.poll 1#2 false t3, .poll 1#2 true t4]) ht).trans hu, by simp [hflag', hflag], ?_⟩
  rw [hlink', hlink, hflag]
  cases s.du.modeFlag <;> simp [flagBytes]

/-! The quiet DU_POLL (R244). -/

theorem pollChannel_inactive_perChannel {i : Channel} {t : Time} {s : State} (hscope : s.cfg.settleScope = .perChannel)
    (hclosed : ¬ SettleWindowOpen i t s) :
    pollChannel i true t s = { s with du := { s.du with
      ch := s.du.ch.set i { s.du.ch.get i with phase := .released, raw := true, settling := false }
      pulse := s.du.pulse.set i false } } := by
  rw [pollChannel_of_no_press hclosed (.inr rfl), sampled_perChannel (s := s.setPulse i false) hscope]
  rfl

/-- The buttons of a quiet DU_POLL: sampling one channel leaves the others' windows as they are. -/
theorem pollButtons_inactive {t : Time} {s : State} (hscope : s.cfg.settleScope = .perChannel)
    (hclosed : ∀ i, ¬ SettleWindowOpen i t s) :
    pollButtons t 7#3 s = { s with du := { s.du with
      ch := ⟨{ s.du.ch.send with phase := .released, raw := true, settling := false },
        { s.du.ch.mode with phase := .released, raw := true, settling := false },
        { s.du.ch.next with phase := .released, raw := true, settling := false }⟩
      pulse := ⟨false, false, false⟩ } } := by
  have hinactive (i : Channel) : pinLevel 7#3 i = true := by cases i <;> rfl
  simp only [pollButtons, hinactive]
  rw [pollChannel_inactive_perChannel hscope (hclosed .send),
    pollChannel_inactive_perChannel (i := .mode) (by exact hscope) (by exact hclosed .mode),
    pollChannel_inactive_perChannel (i := .next) (by exact hscope) (by exact hclosed .next)]
  rfl

theorem receiveLines_of_not_mem_LF {s : State} (h : LF ∉ s.du.rxBuf) : receiveLines s = s := by
  have hcheck : rxCheck .du s = false := (rxCheck_eq_false_iff .du s).mpr h
  simp [receiveLines, drainedLines, rxDrain, hcheck]

/-- Settles O34: the buttons alone; no pulse pops the FIFO, no line is received and no tick is due. -/
theorem quietDuPollChangesOnlyTheChannels : Obligations.QuietDuPollChangesOnlyTheChannels := by
  unfold Obligations.QuietDuPollChangesOnlyTheChannels
  intro now s hrun hscope hclosed hLF hearly
  have hnoTick : tickFires (s.clock now) s = false := (tickFires_eq_false_iff _ s).mpr hearly
  rw [exec_duPoll_of_running hrun, duPoll, pollButtons_inactive hscope hclosed, advance_false,
    receiveLines_of_not_mem_LF (by exact hLF), refresh, if_neg (ne_true_of_eq_false (by exact hnoTick))]

end Sys2Proof.Machine
end

section
/-!
PROOFS, family other: what every effect but RESET is made of. Each is a chain of small moves of the state; a property that
every move keeps is so kept by every instruction. Three properties are read off the moves: what only grows (traces, links,
status bits, with the parameters unchanged), the invariant of the state, and the events of each unit.
-/

namespace Sys2Proof.Machine

/-- One small change of the state: with what it may change and what it must respect. -/
inductive Move : State → State → Prop where
  | env (s : State) (x : EnvState) : Move s (s.setEnv x)
  | out (s : State) (u : UnitId) (x : Results) : Move s (s.setOut u x)
  | rxBuf (s : State) (u : UnitId) (bs : List Byte) : Move s (s.setRxBuf u bs)
  | send (s : State) (u : UnitId) (bs : List Byte) : Move s (s.setLink (outgoing u) (s.linkOf (outgoing u) ++ bs))
  | errorBit (s : State) (u : UnitId) (k : ErrorKind) : Move s (s.orStatus u (errorBit u k))
  | duEvent (s : State) {e : Event} (he : DuEvent e) : Move s (s.emit .du e)
  | hostEvent (s : State) {e : Event} (he : HostEvent e) : Move s (s.emit .host e)
  | fifo (s : State) {x : List Grid} (hx : FifoBounded s → FifoBounded (s.setFifo x)) : Move s (s.setFifo x)
  | modeFlag (s : State) (x : Bool) : Move s (s.setModeFlag x)
  | tick (s : State) {t : Time} (ht : t < 2 ^ s.cfg.timeWidth) : Move s (s.setTickLastFire t)
  | pulse (s : State) (i : Channel) {x : Bool} (hx : x = true → (s.du.ch.get i).phase = .pressed) : Move s (s.setPulse i x)
  | sample (s : State) (i : Channel) {ph : Phase} {p : Bool} (hph : ph = .pressed ↔ p = false)
      (hpulse : s.du.pulse.get i = false) : Move s (sampled i ph p s)
  | window (s : State) (i : Channel) {t : Time} (ht : t < 2 ^ s.cfg.timeWidth)
      (hphase : (s.du.ch.get i).phase = .pressed) : Move s (openWindow i t s)
  | grade (s : State) (x : Grade) : Move s (s.setGrade x)
  | hostPhase (s : State) (x : HostPhase) : Move s (s.setHostPhase x)
  | run (s : State) (u : UnitId) (x : Run) : Move s (s.setRun u x)
  | lastOp (s : State) (x : Opcode) : Move s (s.setLastOp x)
  | mailbox (s : State) {x : Mailbox}
      (hx : LabelInType s.cfg.labels s.host.mailbox.label → LabelInType s.cfg.labels x.label) : Move s (s.setMailbox x)
  | idleStart (s : State) {t : Time} (ht : t < 2 ^ s.cfg.timeWidth) : Move s (s.setIdleStart t)

/-- A chain of moves. -/
abbrev Moves : State → State → Prop := Relation.ReflTransGen Move

theorem Move.moves {s t : State} (h : Move s t) : Moves s t := .single h

/-! What only grows. -/

/-- From `s` to `t` the parameters stay, and traces, link queues and status bits only grow (R30, R37, R41, R43). -/
structure Grows (s t : State) : Prop where
  cfg : t.cfg = s.cfg
  duTrace : s.du.trace <+: t.du.trace
  hostTrace : s.host.trace <+: t.host.trace
  linkHD : s.linkHD <+: t.linkHD
  linkDH : s.linkDH <+: t.linkDH
  duStatus : s.du.status ||| t.du.status = t.du.status
  hostStatus : s.host.status ||| t.host.status = t.host.status

theorem Grows.refl (s : State) : Grows s s :=
  ⟨rfl, List.prefix_rfl, List.prefix_rfl, List.prefix_rfl, List.prefix_rfl, BitVec.or_self, BitVec.or_self⟩

theorem or_eq_right_trans {n : Nat} {x y z : BitVec n} (hxy : x ||| y = y) (hyz : y ||| z = z) : x ||| z = z := by
  rw [← hyz, ← BitVec.or_assoc, hxy]

theorem Grows.trans {s t u : State} (h : Grows s t) (h' : Grows t u) : Grows s u :=
  ⟨h'.cfg.trans h.cfg, h.duTrace.trans h'.duTrace, h.hostTrace.trans h'.hostTrace, h.linkHD.trans h'.linkHD,
    h.linkDH.trans h'.linkDH, or_eq_right_trans h.duStatus h'.duStatus, or_eq_right_trans h.hostStatus h'.hostStatus⟩

/-- A sample writes only the channels and the global window. -/
theorem sampled_frame (i : Channel) (ph : Phase) (p : Bool) (s : State) :
    ∃ ch g, sampled i ph p s = { s with du := { s.du with ch := ch, gsettle := g } } := by
  cases h : s.cfg.settleScope with
  | perChannel => exact ⟨_, _, sampled_perChannel h i ph p⟩
  | global => exact ⟨_, _, sampled_global h i ph p⟩

theorem openWindow_frame (i : Channel) (t : Time) (s : State) :
    ∃ ch g, openWindow i t s = { s with du := { s.du with ch := ch, gsettle := g } } := by
  cases h : s.cfg.settleScope with
  | perChannel => exact ⟨_, _, openWindow_perChannel h i t⟩
  | global => exact ⟨_, _, openWindow_global h i t⟩

theorem Move.grows {s t : State} (h : Move s t) : Grows s t := by
  cases h with
  | send u bs => cases u <;> exact { Grows.refl s with linkHD := by simp [outgoing], linkDH := by simp [outgoing] }
  | errorBit u k =>
    cases u
    · exact { Grows.refl s with duStatus := by simp [← BitVec.or_assoc] }
    · exact { Grows.refl s with hostStatus := by simp [← BitVec.or_assoc] }
  | duEvent => exact { Grows.refl s with duTrace := by simp }
  | hostEvent => exact { Grows.refl s with hostTrace := by simp }
  | out u | rxBuf u | run u => cases u <;> exact { Grows.refl s with }
  | sample i =>
    obtain ⟨_, _, heq⟩ := sampled_frame i _ _ s
    rw [heq]
    exact { Grows.refl s with }
  | window i =>
    obtain ⟨_, _, heq⟩ := openWindow_frame i _ s
    rw [heq]
    exact { Grows.refl s with }
  | _ => exact { Grows.refl s with }

theorem Moves.grows {s t : State} (h : Moves s t) : Grows s t := by
  induction h with
  | refl => exact Grows.refl s
  | tail _ hmove ih => exact ih.trans hmove.grows

theorem Moves.cfg {s t : State} (h : Moves s t) : t.cfg = s.cfg := h.grows.cfg

/-! The invariant. -/

theorem or_and_eq_zero {n : Nat} {x y m : BitVec n} (hx : x &&& m = 0#n) (hy : y &&& m = 0#n) :
    (x ||| y) &&& m = 0#n := by
  rw [BitVec.and_or_distrib_right, hx, hy, BitVec.or_zero]

/-- No error sets a reserved bit (R30, R37). -/
theorem errorBit_du_reserved (k : ErrorKind) : errorBit .du k &&& 0xF0#8 = 0#8 := by
  cases k <;> simp [errorBit, DU_MALF, DU_OVF, DU_TXF, DU_ILL]

theorem errorBit_host_reserved (k : ErrorKind) : errorBit .host k &&& 0xF8#8 = 0#8 := by
  cases k <;> simp [errorBit, HOST_TXF, HOST_RECOG, HOST_ILL]

/-- What holds of channel `i`'s new value and of every other channel's old one holds of every channel. -/
theorem forall_get_set {α : Type} {P : Channel → α → Prop} {x : ByChannel α} {i : Channel} {v : α} (hi : P i v)
    (hx : ∀ j, P j (x.get j)) (j : Channel) : P j ((x.set i v).get j) := by
  by_cases hj : j = i
  · subst hj; rwa [ByChannel.get_set_self]
  · rw [ByChannel.get_set_of_ne x v hj]; exact hx j

theorem stateOk_setChannel {s : State} (h : StateOk s) (i : Channel) {c : ChannelState}
    (hstart : c.settleStart < 2 ^ s.cfg.timeWidth) (hraw : c.phase = .pressed ↔ c.raw = false)
    (hpulse : s.du.pulse.get i = true → c.phase = .pressed) (hsettling : c.settling = true → c.phase = .pressed)
    (hunused : s.cfg.settleScope = .global → c.settling = false ∧ c.settleStart = 0) : StateOk (s.setChannel i c) :=
  { h with
    settle_in_range := forall_get_set (P := fun _ (c : ChannelState) => c.settleStart < 2 ^ s.cfg.timeWidth) hstart
      h.settle_in_range
    pressed_iff_raw_active := forall_get_set (P := fun _ (c : ChannelState) => c.phase = .pressed ↔ c.raw = false) hraw
      h.pressed_iff_raw_active
    pulse_pressed := forall_get_set (P := fun j (c : ChannelState) => s.du.pulse.get j = true → c.phase = .pressed) hpulse
      h.pulse_pressed
    settling_pressed := forall_get_set (P := fun _ (c : ChannelState) => c.settling = true → c.phase = .pressed) hsettling
      h.settling_pressed
    unused_scope := by
      have hold := h.unused_scope
      cases hscope : s.cfg.settleScope <;> simp only [hscope, State.setChannel_cfg] at hold ⊢
      case perChannel => exact hold
      case global =>
        exact forall_get_set (P := fun _ (c : ChannelState) => c.settling = false ∧ c.settleStart = 0)
          (hunused hscope) hold }

theorem stateOk_setGsettle {s : State} (h : StateOk s) (hscope : s.cfg.settleScope = .global) {g : GlobalSettle}
    (hstart : g.start < 2 ^ s.cfg.timeWidth) : StateOk (s.setGsettle g) :=
  { h with
    gsettle_in_range := hstart
    unused_scope := by
      have hold := h.unused_scope
      simp only [hscope, State.setGsettle_cfg] at hold ⊢
      exact hold }

theorem StateOk.unused_of_global {s : State} (h : StateOk s) (hscope : s.cfg.settleScope = .global) (i : Channel) :
    (s.du.ch.get i).settling = false ∧ (s.du.ch.get i).settleStart = 0 := by
  have hold := h.unused_scope
  simp only [hscope] at hold
  exact hold i

theorem stateOk_sampled {s : State} (h : StateOk s) (i : Channel) {ph : Phase} {p : Bool}
    (hph : ph = .pressed ↔ p = false) (hpulse : s.du.pulse.get i = false) : StateOk (sampled i ph p s) := by
  have hpulse' : s.du.pulse.get i = true → ph = .pressed := by simp [hpulse]
  cases hscope : s.cfg.settleScope with
  | perChannel =>
    rw [sampled_perChannel hscope]
    exact stateOk_setChannel h i (h.settle_in_range i) hph hpulse' nofun (by simp [hscope])
  | global =>
    rw [sampled_global hscope]
    obtain ⟨hsettling, hstart⟩ := h.unused_of_global hscope i
    have hsampled := stateOk_setChannel h i (c := { s.du.ch.get i with phase := ph, raw := p }) (h.settle_in_range i)
      hph hpulse' (by simp [hsettling]) fun _ => ⟨hsettling, hstart⟩
    exact stateOk_setGsettle hsampled hscope h.gsettle_in_range

theorem stateOk_openWindow {s : State} (h : StateOk s) (i : Channel) {t : Time} (ht : t < 2 ^ s.cfg.timeWidth)
    (hphase : (s.du.ch.get i).phase = .pressed) : StateOk (openWindow i t s) := by
  cases hscope : s.cfg.settleScope with
  | perChannel =>
    rw [openWindow_perChannel hscope]
    exact stateOk_setChannel h i ht (h.pressed_iff_raw_active i) (h.pulse_pressed i) (fun _ => hphase) (by simp [hscope])
  | global =>
    rw [openWindow_global hscope]
    exact stateOk_setGsettle h hscope ht

theorem Move.stateOk {s t : State} (hmove : Move s t) (h : StateOk s) : StateOk t := by
  cases hmove with
  | errorBit u k =>
    cases u
    · exact { h with du_reserved_zero := or_and_eq_zero h.du_reserved_zero (errorBit_du_reserved k) }
    · exact { h with host_reserved_zero := or_and_eq_zero h.host_reserved_zero (errorBit_host_reserved k) }
  | fifo hx => exact { h with fifo_bounded := hx h.fifo_bounded }
  | tick ht => exact { h with tick_in_range := ht }
  | idleStart ht => exact { h with idle_in_range := ht }
  | mailbox hx => exact { h with label_in_type := hx h.label_in_type }
  | pulse i hx =>
    exact { h with
      pulse_pressed := forall_get_set (P := fun j x => x = true → (s.du.ch.get j).phase = .pressed) hx h.pulse_pressed }
  | sample i hph hpulse => exact stateOk_sampled h i hph hpulse
  | window i ht hphase => exact stateOk_openWindow h i ht hphase
  | out u | rxBuf u | run u | send u => cases u <;> exact { h with }
  | _ => exact { h with }

theorem Moves.stateOk {s t : State} (hmoves : Moves s t) (h : StateOk s) : StateOk t := by
  induction hmoves with
  | refl => exact h
  | tail _ hmove ih => exact hmove.stateOk ih

/-! The events. -/

theorem forall_mem_append_singleton {P : Event → Prop} {tr : List Event} {e : Event} (htr : ∀ x ∈ tr, P x) (he : P e) :
    ∀ x ∈ tr ++ [e], P x := by
  simpa [or_imp, forall_and] using ⟨htr, he⟩

theorem Move.tracesOk {s t : State} (hmove : Move s t) (h : TracesOk s) : TracesOk t := by
  cases hmove with
  | duEvent he => exact { h with du_events := forall_mem_append_singleton h.du_events he }
  | hostEvent he => exact { h with host_events := forall_mem_append_singleton h.host_events he }
  | out u | rxBuf u | run u | send u | errorBit u => cases u <;> exact { h with }
  | sample i =>
    obtain ⟨_, _, heq⟩ := sampled_frame i _ _ s
    rw [heq]
    exact { h with }
  | window i =>
    obtain ⟨_, _, heq⟩ := openWindow_frame i _ s
    rw [heq]
    exact { h with }
  | _ => exact { h with }

theorem Moves.tracesOk {s t : State} (hmoves : Moves s t) (h : TracesOk s) : TracesOk t := by
  induction hmoves with
  | refl => exact h
  | tail _ hmove ih => exact hmove.tracesOk ih

/-! The DU's effects as chains of moves. -/

theorem takeAnswer_moves (s : State) : Moves s (takeAnswer s) := by
  unfold takeAnswer
  split <;> exact (Move.env s _).moves

theorem takeTurn_moves (s : State) : Moves s (takeTurn s) := by
  unfold takeTurn
  split <;> exact (Move.env s _).moves

theorem raiseError_moves {u : UnitId} {k : ErrorKind} (hevent : ∀ s, Move s (s.emit u (.error k))) (s : State) :
    Moves s (raiseError u k s) := by
  have hraised := (Move.errorBit s u k).moves.tail (hevent _)
  unfold raiseError
  split
  · exact hraised.tail (.run _ u _)
  · exact hraised

theorem raiseError_du_moves {k : ErrorKind} (hk : k ≠ .recognitionError) (s : State) : Moves s (raiseError .du k s) :=
  raiseError_moves (fun s => .duEvent s hk) s

theorem raiseError_host_moves {k : ErrorKind} (hk : HostEvent (.error k)) (s : State) :
    Moves s (raiseError .host k s) :=
  raiseError_moves (fun s => .hostEvent s hk) s

theorem raiseIllegal_moves (u : UnitId) (s : State) : Moves s (raiseError u .illegalCommand s) := by
  cases u with
  | du => exact raiseError_du_moves (by simp) s
  | host => exact raiseError_host_moves (by simp [HostEvent]) s

theorem txWrite_du_moves {bs : List Byte} (hbs : DuEvent (.tx bs)) (s : State) : Moves s (txWrite .du bs s) := by
  have hsent : Moves s (takeAnswer (s.emit .du (.tx bs))) := (Move.duEvent s hbs).moves.trans (takeAnswer_moves _)
  unfold txWrite
  split
  · exact hsent.tail (.send _ .du _)
  · exact (hsent.tail (.send _ .du _)).trans (raiseError_du_moves (by simp) _)

theorem txWrite_host_moves {bs : List Byte} (hbs : HostEvent (.tx bs)) (s : State) : Moves s (txWrite .host bs s) := by
  have hsent : Moves s (takeAnswer (s.emit .host (.tx bs))) := (Move.hostEvent s hbs).moves.trans (takeAnswer_moves _)
  unfold txWrite
  split
  · exact hsent.tail (.send _ .host _)
  · exact (hsent.tail (.send _ .host _)).trans (raiseError_host_moves (.inl rfl) _)

theorem rxDrain_moves (u : UnitId) (s : State) : Moves s (rxDrain u s) := by
  rw [rxDrain_eq_splitLines]
  exact (Move.rxBuf s u _).moves

/-! The FIFO. -/

theorem fifoBounded_iff (s : State) :
    FifoBounded s ↔ ∀ n, s.cfg.fifoDepth = .bounded n → 1 ≤ n ∧ s.du.fifo.length ≤ n := by
  cases h : s.cfg.fifoDepth <;> simp [FifoBounded, h]

theorem setFifo_moves {s : State} {x : List Grid}
    (hx : ∀ n, s.cfg.fifoDepth = .bounded n → 1 ≤ n → s.du.fifo.length ≤ n → x.length ≤ n) : Moves s (s.setFifo x) := by
  refine (Move.fifo s fun hbounded => ?_).moves
  rw [fifoBounded_iff] at hbounded ⊢
  intro n hn
  obtain ⟨hpos, hlen⟩ := hbounded n hn
  exact ⟨hpos, hx n hn hpos hlen⟩

theorem length_lt_of_hasRoom {s : State} {n : Nat} (h : hasRoom s = true) (hn : s.cfg.fifoDepth = .bounded n) :
    s.du.fifo.length < n := by simpa [hasRoom, hn] using h

theorem pushBack_moves (g : Grid) (s : State) : Moves s (pushBack g s) := by
  unfold pushBack
  split
  next hroom => exact setFifo_moves fun n hn _ _ => by simpa using length_lt_of_hasRoom hroom hn
  next => exact raiseError_du_moves (by simp) s

theorem pushFront_moves (g : Grid) (s : State) : Moves s (pushFront g s) := by
  unfold pushFront
  split
  next hroom => exact setFifo_moves fun n hn _ _ => by simpa using length_lt_of_hasRoom hroom hn
  next =>
    refine (setFifo_moves fun n hn hpos _ => ?_).trans (raiseError_du_moves (by simp) _)
    simp only [keptAtFront, hn, List.length_cons, List.length_take]
    omega

theorem advance_moves (c : Bool) (s : State) : Moves s (advance c s) := by
  cases c with
  | false => exact .refl
  | true => exact setFifo_moves fun n _ _ hlen => by rw [List.length_drop]; omega

theorem driveFront_moves (s : State) : Moves s (driveFront s) := (Move.out s .du _).moves

theorem rxFrame_moves (l : Line) (s : State) : Moves s (rxFrame l s) := by
  unfold rxFrame
  split
  next r hmalformed =>
    have hlogged : DuEvent (.logMalformed l) := by
      rintro h g rfl
      simp at hmalformed
    exact (Move.duEvent s hlogged).moves.trans (raiseError_du_moves (by simp) _)
  next => exact (Move.duEvent s (e := .buzz) trivial).moves.trans (pushFront_moves _ _)
  next => exact pushBack_moves _ s

theorem rxFrames_moves (ls : List Line) (s : State) : Moves s (rxFrames ls s) := by
  induction ls generalizing s with
  | nil => exact .refl
  | cons l ls ih => exact (rxFrame_moves l s).trans (ih _)

theorem receiveLines_moves (s : State) : Moves s (receiveLines s) :=
  (rxDrain_moves .du s).trans (rxFrames_moves (drainedLines .du s) _)

/-! The buttons and the tick. -/

theorem clock_lt (s : State) (now : Time) : s.clock now < 2 ^ s.cfg.timeWidth := Nat.mod_lt _ (Nat.two_pow_pos _)

theorem sampled_moves {s : State} {i : Channel} {ph : Phase} {p : Bool} (hph : ph = .pressed ↔ p = false) :
    Moves s (sampled i ph p (s.setPulse i false)) :=
  (Move.pulse s i (x := false) nofun).moves.tail (.sample _ i hph (by simp))

theorem pressOpened_moves (i : Channel) {t : Time} {s : State} (ht : t < 2 ^ s.cfg.timeWidth) :
    Moves s (pressOpened i t s) := by
  have hsampled : Moves s (sampled i .pressed false (s.setPulse i false)) := sampled_moves (by simp)
  have hphase : ((sampled i .pressed false (s.setPulse i false)).du.ch.get i).phase = .pressed := setPhase_phase ..
  have hpulsed : Moves s _ := hsampled.tail (.pulse _ i (x := true) fun _ => hphase)
  exact hpulsed.tail (.window _ i (by rwa [hpulsed.cfg]) hphase)

theorem duEvent_flagBytes (flag : Bool) : DuEvent (.tx (flagBytes flag)) := by
  cases flag <;> simp [DuEvent, flagBytes]

theorem modeToggle_moves (s : State) : Moves s (modeToggle s) :=
  (Move.modeFlag s _).moves.tail (.duEvent _ (e := .renderMode _) trivial)

theorem press_moves (i : Channel) {t : Time} {s : State} (ht : t < 2 ^ s.cfg.timeWidth) : Moves s (press i t s) := by
  have hopened := pressOpened_moves i ht
  cases i with
  | send => exact hopened.trans (txWrite_du_moves (.inl rfl) _)
  | mode => exact (hopened.trans (modeToggle_moves _)).trans (txWrite_du_moves (duEvent_flagBytes _) _)
  | next => exact hopened

theorem pollChannel_moves (i : Channel) (p : Bool) {t : Time} {s : State} (ht : t < 2 ^ s.cfg.timeWidth) :
    Moves s (pollChannel i p t s) := by
  rw [pollChannel_eq]
  split
  · exact (Move.pulse s i (x := false) nofun).moves
  · split
    · exact press_moves i ht
    · exact sampled_moves (by cases p <;> simp)

theorem pollButtons_moves {t : Time} {s : State} (ht : t < 2 ^ s.cfg.timeWidth) (pins : BitVec 3) :
    Moves s (pollButtons t pins s) :=
  ((pollChannel_moves .send _ ht).trans (pollChannel_moves .mode _ (by simpa using ht))).trans
    (pollChannel_moves .next _ (by simpa using ht))

theorem tickCheck_moves {t : Time} {s : State} (ht : t < 2 ^ s.cfg.timeWidth) : Moves s (tickCheck t s) := by
  unfold tickCheck
  split
  · exact (Move.tick s ht).moves
  · exact .refl

theorem refresh_moves {t : Time} {s : State} (ht : t < 2 ^ s.cfg.timeWidth) : Moves s (refresh t s) := by
  unfold refresh
  split
  · exact (tickCheck_moves ht).tail (.duEvent _ (e := .render _) trivial)
  · exact .refl

theorem duPoll_moves {t : Time} {s : State} (ht : t < 2 ^ s.cfg.timeWidth) (pins : BitVec 3) :
    Moves s (duPoll t pins s) := by
  have hpopped : Moves s _ := (pollButtons_moves ht pins).trans (advance_moves (pollButtons t pins s).du.pulse.next _)
  have hreceived : Moves s _ := hpopped.trans (receiveLines_moves _)
  exact hreceived.trans (refresh_moves (by rwa [hreceived.cfg]))

/-! The host's effects as chains of moves. -/

theorem hostEvent_frameBytes (h : Bool) (g : Grid) : HostEvent (.tx (frameBytes h g)) := ⟨h, g, rfl⟩

theorem sendAlert_moves (s : State) : Moves s (sendAlert s) := by
  have htaken : Moves s (alertTake s) := (Move.mailbox s (x := { s.host.mailbox with pending := false }) id).moves
  obtain ⟨-, h⟩ | ⟨-, h⟩ := sendAlert_cases s
  · rw [h]; exact htaken
  · rw [h]; exact htaken.trans (txWrite_host_moves (hostEvent_frameBytes _ _) _)

theorem idleCheck_moves {t : Time} {s : State} (ht : t < 2 ^ s.cfg.timeWidth) : Moves s (idleCheck t s) := by
  unfold idleCheck
  split
  · exact (Move.hostEvent s (e := .recalRequest) trivial).moves.tail (.idleStart _ ht)
  · exact .refl

theorem dispatch_moves (op : Opcode) {t : Time} {s : State} (ht : t < 2 ^ s.cfg.timeWidth) : Moves s (dispatch op t s) := by
  cases op with
  | idle => exact (sendAlert_moves s).trans (idleCheck_moves (by rwa [(sendAlert_moves s).cfg]))
  | send =>
    exact ((Move.hostPhase s .capture).moves.tail (.hostEvent _ (e := .captureStart) trivial)).tail (.idleStart _ ht)
  | grade2 => exact (Move.grade s .grade2).moves.tail (.idleStart _ ht)
  | grade1 => exact (Move.grade s .grade1).moves.tail (.idleStart _ ht)

theorem whenPolling_moves {f : State → State} {s : State} (hf : Moves s (f s)) : Moves s (whenPolling f s) := by
  unfold whenPolling
  split
  · exact hf
  · exact raiseIllegal_moves .host s

theorem actOnLines_moves (ls : List Line) {t : Time} {s : State} (ht : t < 2 ^ s.cfg.timeWidth) :
    Moves s (actOnLines ls t s) :=
  (Move.lastOp s _).moves.trans (dispatch_moves _ ht)

theorem hostPoll_moves {t : Time} {s : State} (ht : t < 2 ^ s.cfg.timeWidth) : Moves s (hostPoll t s) :=
  whenPolling_moves ((rxDrain_moves .host s).trans (actOnLines_moves _ (by rwa [(rxDrain_moves .host s).cfg])))

theorem pollOneLine_moves (l : Line) {t : Time} {s : State} (ht : t < 2 ^ s.cfg.timeWidth) : Moves s (pollOneLine l t s) :=
  whenPolling_moves (actOnLines_moves [l] ht)

theorem captureDone_moves (err : Bool) (cells : List Cell) {t : Time} {s : State} (ht : t < 2 ^ s.cfg.timeWidth) :
    Moves s (captureDone err cells t s) := by
  have hpolling : Moves s (backToPolling t s) := (Move.hostPhase s .polling).moves.tail (.idleStart _ ht)
  cases hphase : s.host.phase with
  | polling => rw [captureDone_of_polling hphase]; exact raiseIllegal_moves .host s
  | capture =>
    rw [captureDone_of_capture hphase]
    split
    · exact hpolling.trans (raiseError_host_moves (by simp [HostEvent]) _)
    · exact hpolling.trans (txWrite_host_moves (hostEvent_frameBytes _ _) _)

/-! Every instruction but RESET, and every step. -/

theorem driveDecoded_moves (u : UnitId) (l : Line) (s : State) : Moves s (driveDecoded u l s) := by
  unfold driveDecoded
  split <;> exact (Move.out s u _).moves

theorem effect_moves {i : Instr} (hi : ∀ u now ok, i ≠ .reset u now ok) (s : State) : Moves s (effect i s) := by
  have ht (now : Time) : s.clock now < 2 ^ s.cfg.timeWidth := clock_lt s now
  cases i with
  | nop => exact .refl
  | encode u | normalize u => exact (Move.out s u _).moves
  | decode u l => exact driveDecoded_moves u l s
  | pushBack g => exact pushBack_moves g s
  | pushFront g => exact pushFront_moves g s
  | peek => exact driveFront_moves s
  | advance c => exact (advance_moves c s).trans (driveFront_moves _)
  | poll ch p now =>
    simp only [effect]
    split
    · exact (pollChannel_moves _ p (ht now)).tail (.out _ .du _)
    · exact raiseIllegal_moves .du s
  | tickCheck now => exact (tickCheck_moves (ht now)).tail (.out _ .du _)
  | alertPost lab => exact (Move.mailbox s fun _ => labelInType_labelIn s lab).moves
  | hostPoll now => exact hostPoll_moves (ht now)
  | captureDone err cells now => exact captureDone_moves err cells (ht now)
  | duPoll now pins => exact duPoll_moves (ht now) pins
  | rxFrame | frameOrdinary | frameAlert => exact rxFrame_moves _ s
  | reset u now ok => exact absurd rfl (hi u now ok)
  | opIdle now => exact whenPolling_moves (dispatch_moves .idle (ht now))
  | opSend now => exact whenPolling_moves (dispatch_moves .send (ht now))
  | opGrade2 now => exact whenPolling_moves (dispatch_moves .grade2 (ht now))
  | opGrade1 now => exact whenPolling_moves (dispatch_moves .grade1 (ht now))
  | ctrlSend now | ctrlTrue now | ctrlFalse now => exact pollOneLine_moves _ (ht now)

theorem exec_moves {i : Instr} {s t : State} (h : exec i s = .next t) (hi : ∀ u now ok, i ≠ .reset u now ok) : Moves s t :=
  exec_induction h (effect_moves hi s) .refl

theorem whenRunning_moves {u : UnitId} {f : State → State} {s : State} (hf : Moves s (f s)) :
    Moves s (whenRunning u f s) := by
  obtain ⟨-, h⟩ | ⟨-, h⟩ := whenRunning_cases u f s
  · rw [h]; exact hf
  · rw [h]

theorem actOnReject_moves (p : Presented) (s : State) : Moves s (actOnReject p s) := by
  obtain ⟨u, _, _, -, h⟩ | ⟨_, _, -, h⟩ | ⟨l, _, -, h⟩ | ⟨l, _, -, h⟩ := actOnReject_cases p s <;> rw [h]
  · exact whenRunning_moves (raiseIllegal_moves u s)
  · exact whenRunning_moves (rxFrame_moves l s)
  · exact whenRunning_moves (pollOneLine_moves l (clock_lt s _))

/-- A step is moves, then possibly a LINK step or a RESET. -/
theorem step_cases {s t : State} (h : step s = .next t) :
    Moves s t ∨ (∃ s' l noise, Moves s s' ∧ t = linkStep l noise s') ∨
      (∃ s' u now ok, Moves s s' ∧ t = resetUnit u (s'.clock now) ok s') := by
  have hturn := takeTurn_moves s
  have hpresented (p : Presented) : Moves s (invalidatePorts p.unit (takeTurn s)) := hturn.tail (.out _ p.unit _)
  obtain ⟨l, noise, -, hp⟩ | ⟨p, i, -, hp⟩ | ⟨p, r, -, -, hp⟩ := perform_cases (nextTurn s) (takeTurn s) <;>
    rw [step, hp] at h
  · exact .inr (.inl ⟨_, l, noise, hturn, (Host.Outcome.next.inj h).symm⟩)
  · by_cases hreset : ∃ u now ok, i = .reset u now ok
    · obtain ⟨u, now, ok, rfl⟩ := hreset
      exact .inr (.inr ⟨_, u, now, ok, hpresented p, (Host.Outcome.next.inj h).symm⟩)
    · exact .inl ((hpresented p).trans (exec_moves h (by simpa using hreset)))
  · rw [← Host.Outcome.next.inj h]
    exact .inl ((hpresented p).trans (actOnReject_moves p _))

/-! RESET and the LINK step. -/

theorem resetUnit_moves (u : UnitId) (t : Time) (ok : Bool) (s : State) :
    Moves (match u with | .du => resetDu t s | .host => resetHost t s) (resetUnit u t ok s) := by
  cases ok with
  | true => exact .refl
  | false =>
    cases u with
    | du => exact raiseError_du_moves (k := .initFailure) (by simp) _
    | host => exact raiseError_host_moves (k := .initFailure) (by simp [HostEvent]) _

theorem stateOk_resetDu {s : State} (h : StateOk s) {t : Time} (ht : t < 2 ^ s.cfg.timeWidth) : StateOk (resetDu t s) := by
  have hpos : 0 < 2 ^ s.cfg.timeWidth := Nat.two_pow_pos _
  have hchannels (i : Channel) : (resetDu t s).du.ch.get i = channelAtReset := by cases i <;> rfl
  have hpulses (i : Channel) : (resetDu t s).du.pulse.get i = false := by cases i <;> rfl
  exact { h with
    fifo_bounded := (fifoBounded_iff _).mpr fun n hn => ⟨((fifoBounded_iff s).mp h.fifo_bounded n hn).1, Nat.zero_le _⟩
    settle_in_range := fun i => by rw [hchannels]; exact hpos
    gsettle_in_range := hpos
    tick_in_range := ht
    du_reserved_zero := BitVec.zero_and
    pressed_iff_raw_active := fun i => by simp [hchannels, channelAtReset]
    pulse_pressed := fun i => by simp [hpulses]
    settling_pressed := fun i => by simp [hchannels, channelAtReset]
    unused_scope := by
      split
      · rfl
      · intro i; rw [hchannels]; exact ⟨rfl, rfl⟩ }

theorem stateOk_resetHost {s : State} (h : StateOk s) {t : Time} (ht : t < 2 ^ s.cfg.timeWidth) :
    StateOk (resetHost t s) :=
  { h with
    idle_in_range := ht
    label_in_type := labelInType_labelIn s _
    host_reserved_zero := BitVec.zero_and }

theorem stateOk_resetUnit {s : State} (h : StateOk s) (u : UnitId) {t : Time} (ht : t < 2 ^ s.cfg.timeWidth) (ok : Bool) :
    StateOk (resetUnit u t ok s) := by
  refine (resetUnit_moves u t ok s).stateOk ?_
  cases u with
  | du => exact stateOk_resetDu h ht
  | host => exact stateOk_resetHost h ht

theorem stateOk_linkStep {s : State} (h : StateOk s) (l : Link) (noise : Option Byte) : StateOk (linkStep l noise s) := by
  obtain heq | ⟨b, q, -, -, heq⟩ := linkStep_cases l noise s <;> rw [heq]
  · exact h
  · cases l <;> exact { h with }

/-- Settles O48: moves, LINK steps and RESETs keep the invariant. -/
theorem stepKeepsTheInvariant : Obligations.StepKeepsTheInvariant := by
  unfold Obligations.StepKeepsTheInvariant
  intro s t hs h
  obtain hmoves | ⟨s', l, noise, hmoves, rfl⟩ | ⟨s', u, now, ok, hmoves, rfl⟩ := step_cases h
  · exact hmoves.stateOk hs
  · exact stateOk_linkStep (hmoves.stateOk hs) l noise
  · exact stateOk_resetUnit (hmoves.stateOk hs) u (clock_lt s' now) ok

/-- Settles O49: the reset values, field by field; the free type Label has its first value. -/
theorem resetHasTheInvariant : Obligations.ResetHasTheInvariant := by
  unfold Obligations.ResetHasTheInvariant
  have hchannels (i : Channel) : State.reset.du.ch.get i = channelAtReset := by cases i <;> rfl
  have hpulses (i : Channel) : State.reset.du.pulse.get i = false := by cases i <;> rfl
  have hlabel : LabelInType Config.params.labels ⟨0⟩ := by cases h : Config.params.labels <;> simp [LabelInType]
  exact {
    fifo_bounded := (fifoBounded_iff _).mpr fun n hn => by cases hn; decide
    settle_in_range := fun i => by rw [hchannels]; exact Nat.two_pow_pos _
    gsettle_in_range := Nat.two_pow_pos _
    tick_in_range := Nat.two_pow_pos _
    idle_in_range := Nat.two_pow_pos _
    label_in_type := hlabel
    du_reserved_zero := BitVec.zero_and
    host_reserved_zero := BitVec.zero_and
    pressed_iff_raw_active := fun i => by simp [hchannels, channelAtReset]
    pulse_pressed := fun i => by simp [hpulses]
    settling_pressed := fun i => by simp [hchannels, channelAtReset]
    unused_scope := rfl }

theorem tracesOk_resetUnit {s : State} (h : TracesOk s) (u : UnitId) (t : Time) (ok : Bool) :
    TracesOk (resetUnit u t ok s) := by
  refine (resetUnit_moves u t ok s).tracesOk ?_
  cases u <;> exact { h with }

theorem tracesOk_linkStep {s : State} (h : TracesOk s) (l : Link) (noise : Option Byte) :
    TracesOk (linkStep l noise s) := by
  obtain heq | ⟨b, q, -, -, heq⟩ := linkStep_cases l noise s <;> rw [heq]
  · exact h
  · cases l <;> exact { h with }

/-- Settles O50: moves, LINK steps and RESETs keep the event discipline, and empty traces have it. -/
theorem stepKeepsTheEventDiscipline : Obligations.StepKeepsTheEventDiscipline := by
  unfold Obligations.StepKeepsTheEventDiscipline
  refine ⟨⟨nofun, nofun⟩, fun s t hs h => ?_⟩
  obtain hmoves | ⟨s', l, noise, hmoves, rfl⟩ | ⟨s', u, now, ok, hmoves, rfl⟩ := step_cases h
  · exact hmoves.tracesOk hs
  · exact tracesOk_linkStep (hmoves.tracesOk hs) l noise
  · exact tracesOk_resetUnit (hmoves.tracesOk hs) u _ ok

theorem linkStep_frame (l : Link) (noise : Option Byte) (s : State) :
    (linkStep l noise s).cfg = s.cfg ∧ (linkStep l noise s).du.trace = s.du.trace ∧
      (linkStep l noise s).host.trace = s.host.trace ∧ (linkStep l noise s).du.status = s.du.status ∧
      (linkStep l noise s).host.status = s.host.status := by
  obtain heq | ⟨b, q, -, -, heq⟩ := linkStep_cases l noise s <;> rw [heq]
  · exact ⟨rfl, rfl, rfl, rfl, rfl⟩
  · cases l <;> exact ⟨rfl, rfl, rfl, rfl, rfl⟩

theorem resetUnit_frame (u : UnitId) (t : Time) (ok : Bool) (s : State) :
    (resetUnit u t ok s).cfg = s.cfg ∧ s.du.trace <+: (resetUnit u t ok s).du.trace ∧
      s.host.trace <+: (resetUnit u t ok s).host.trace := by
  have hgrows := (resetUnit_moves u t ok s).grows
  cases u <;> exact ⟨hgrows.cfg, hgrows.duTrace, hgrows.hostTrace⟩

/-- Settles O51: moves only append to traces and keep the parameters; a LINK step touches neither, and a RESET gives neither a
reset value (R41). -/
theorem stepKeepsTracesAndParameters : Obligations.StepKeepsTracesAndParameters := by
  unfold Obligations.StepKeepsTracesAndParameters
  intro s t h
  obtain hmoves | ⟨s', l, noise, hmoves, rfl⟩ | ⟨s', u, now, ok, hmoves, rfl⟩ := step_cases h <;>
    have hgrows := hmoves.grows
  · exact ⟨hgrows.duTrace, hgrows.hostTrace, hgrows.cfg⟩
  · obtain ⟨hcfg, hdu, hhost, -⟩ := linkStep_frame l noise s'
    rw [hcfg, hdu, hhost]
    exact ⟨hgrows.duTrace, hgrows.hostTrace, hgrows.cfg⟩
  · obtain ⟨hcfg, hdu, hhost⟩ := resetUnit_frame u (s'.clock now) ok s'
    exact ⟨hgrows.duTrace.trans hdu, hgrows.hostTrace.trans hhost, hcfg.trans hgrows.cfg⟩

/-- Settles O52: no move clears a status bit, and a LINK step writes no status. -/
theorem statusBitsAreSticky : Obligations.StatusBitsAreSticky := by
  unfold Obligations.StatusBitsAreSticky
  refine ⟨fun i s t h hi => ?instruction, fun l noise s => ?link⟩
  case instruction =>
    have hgrows := (exec_moves h hi).grows
    exact ⟨hgrows.duStatus, hgrows.hostStatus⟩
  case link =>
    obtain ⟨-, -, -, hdu, hhost⟩ := linkStep_frame l noise s
    exact ⟨hdu, hhost⟩

end Sys2Proof.Machine
end

section
/-!
PROOFS, family other: noninterference. A DU effect commutes with overwriting the host's record and LINK_HD; a host effect with
overwriting the DU's record and LINK_DH, and (but for the mailbox's own instructions) with overwriting the mailbox while no
alert is pending. An effect that commutes with overwriting something neither reads it nor writes it (R8, R34, R284).
-/

namespace Sys2Proof.Machine

/-- From an effect that commutes with a change of the state to its instruction, where the change leaves the unit's `run`. -/
theorem exists_exec_commute {i : Instr} {w : State → State} {s : State}
    (hrun : (w s).runOf (encode i).unit = s.runOf (encode i).unit) (heffect : effect i (w s) = w (effect i s)) :
    ∃ t, exec i s = .next t ∧ exec i (w s) = .next (w t) := by
  cases h : s.runOf (encode i).unit with
  | running => exact ⟨_, exec_of_running h, by rw [exec_of_running (hrun.trans h), heffect]⟩
  | fatal =>
    by_cases hi : ∃ u now ok, i = .reset u now ok
    · obtain ⟨u, now, ok, rfl⟩ := hi
      exact ⟨_, exec_reset u now ok s, congrArg _ heffect⟩
    · have hi' : ∀ u now ok, i ≠ .reset u now ok := by simpa using hi
      exact ⟨s, exec_of_fatal h hi', exec_of_fatal (hrun.trans h) hi'⟩

/-! The DU. -/

/-- The state with another record of the host and another LINK_HD. -/
def withHost (h : HostState) (q : List Byte) (s : State) : State := { s with host := h, linkHD := q }

theorem withHost_self (s : State) : withHost s.host s.linkHD s = s := rfl

section WithHost

variable (h : HostState) (q : List Byte) (s : State)

theorem txWrite_withHost (b : List Byte) : txWrite .du b (withHost h q s) = withHost h q (txWrite .du b s) := by
  have henv : (takeAnswer (withHost h q s)).env = (takeAnswer s).env := takeAnswer_env_congr rfl
  have hanswer : nextAnswer (withHost h q s) = nextAnswer s := nextAnswer_congr rfl
  cases hs : nextAnswer s with
  | ok => rw [txWrite_du_ok b hs, txWrite_du_ok b (hanswer.trans hs), henv]; rfl
  | failed n => rw [txWrite_du_failed b hs, txWrite_du_failed b (hanswer.trans hs), henv]; rfl

theorem sampled_withHost (i : Channel) (ph : Phase) (p : Bool) :
    sampled i ph p (withHost h q s) = withHost h q (sampled i ph p s) := by
  cases hscope : s.cfg.settleScope with
  | perChannel => rw [sampled_perChannel hscope, sampled_perChannel (s := withHost h q s) hscope]; rfl
  | global => rw [sampled_global hscope, sampled_global (s := withHost h q s) hscope]; rfl

theorem pressOpened_withHost (i : Channel) (t : Time) :
    pressOpened i t (withHost h q s) = withHost h q (pressOpened i t s) := by
  cases hscope : s.cfg.settleScope with
  | perChannel => rw [pressOpened_perChannel hscope, pressOpened_perChannel (s := withHost h q s) hscope]; rfl
  | global => rw [pressOpened_global hscope, pressOpened_global (s := withHost h q s) hscope]; rfl

theorem press_withHost (i : Channel) (t : Time) : press i t (withHost h q s) = withHost h q (press i t s) := by
  cases i with
  | send => simp only [press, pressOpened_withHost, txWrite_withHost]
  | mode =>
    have htoggled (s : State) : modeToggle (withHost h q s) = withHost h q (modeToggle s) := rfl
    simp only [press, pressOpened_withHost, htoggled]
    exact txWrite_withHost h q _ _
  | next => exact pressOpened_withHost h q s .next t

theorem pollChannel_withHost (i : Channel) (p : Bool) (t : Time) :
    pollChannel i p t (withHost h q s) = withHost h q (pollChannel i p t s) := by
  have hwindow : windowOpen i t (withHost h q s) = windowOpen i t s := windowOpen_congr rfl rfl rfl i t
  have hphase : (withHost h q s).du.ch = s.du.ch := rfl
  simp only [pollChannel_eq, hwindow, hphase]
  split
  · rfl
  · split
    · exact press_withHost h q s i t
    · exact sampled_withHost h q (s.setPulse i false) i _ p

theorem pollButtons_withHost (t : Time) (pins : BitVec 3) :
    pollButtons t pins (withHost h q s) = withHost h q (pollButtons t pins s) := by
  simp only [pollButtons, pollChannel_withHost]

theorem pushBack_withHost (g : Grid) : pushBack g (withHost h q s) = withHost h q (pushBack g s) := by
  have hroom : hasRoom (withHost h q s) = hasRoom s := rfl
  cases hr : hasRoom s <;> simp only [pushBack, hroom, hr] <;> rfl

theorem pushFront_withHost (g : Grid) : pushFront g (withHost h q s) = withHost h q (pushFront g s) := by
  have hroom : hasRoom (withHost h q s) = hasRoom s := rfl
  cases hr : hasRoom s <;> simp only [pushFront, hroom, hr] <;> rfl

theorem rxFrame_withHost (l : Line) : rxFrame l (withHost h q s) = withHost h q (rxFrame l s) := by
  unfold rxFrame
  split
  · rfl
  · exact pushFront_withHost h q (s.emit .du .buzz) _
  · exact pushBack_withHost h q s _

theorem rxFrames_withHost (ls : List Line) : rxFrames ls (withHost h q s) = withHost h q (rxFrames ls s) :=
  List.foldl_hom (withHost h q) fun s l => rxFrame_withHost h q s l

theorem receiveLines_eq :
    receiveLines s = rxFrames (splitLines s.du.rxBuf).1 (s.setRxBuf .du (splitLines s.du.rxBuf).2) := by
  rw [receiveLines, drainedLines_eq_splitLines, rxDrain_eq_splitLines]
  rfl

theorem receiveLines_withHost : receiveLines (withHost h q s) = withHost h q (receiveLines s) := by
  rw [receiveLines_eq, receiveLines_eq]
  exact rxFrames_withHost h q (s.setRxBuf .du (splitLines s.du.rxBuf).2) _

theorem advance_withHost (c : Bool) : advance c (withHost h q s) = withHost h q (advance c s) := by cases c <;> rfl

theorem tickCheck_withHost (t : Time) : tickCheck t (withHost h q s) = withHost h q (tickCheck t s) := by
  have hfires : tickFires t (withHost h q s) = tickFires t s := rfl
  cases hf : tickFires t s <;> simp only [tickCheck, hfires, hf] <;> rfl

theorem refresh_withHost (t : Time) : refresh t (withHost h q s) = withHost h q (refresh t s) := by
  have hfires : tickFires t (withHost h q s) = tickFires t s := rfl
  cases hf : tickFires t s
  · simp only [refresh, hfires, hf]; rfl
  · simp only [refresh, hfires, hf, tickCheck_withHost]; rfl

theorem duPoll_withHost (t : Time) (pins : BitVec 3) :
    duPoll t pins (withHost h q s) = withHost h q (duPoll t pins s) := by
  have hpulse (s : State) : (withHost h q s).du.pulse = s.du.pulse := rfl
  simp only [duPoll, pollButtons_withHost, hpulse, advance_withHost, receiveLines_withHost, refresh_withHost]

theorem driveDecoded_withHost (l : Line) : driveDecoded .du l (withHost h q s) = withHost h q (driveDecoded .du l s) := by
  unfold driveDecoded
  split <;> rfl

theorem resetUnit_withHost (t : Time) (ok : Bool) :
    resetUnit .du t ok (withHost h q s) = withHost h q (resetUnit .du t ok s) := by cases ok <;> rfl

/-- No DU effect reads or writes the host's record or LINK_HD. -/
theorem effect_withHost {i : Instr} (hi : (encode i).unit = .du) :
    effect i (withHost h q s) = withHost h q (effect i s) := by
  have hclock (now : Time) : (withHost h q s).clock now = s.clock now := rfl
  cases i with
  | nop u | encode u | normalize u => cases hi; rfl
  | decode u l => cases hi; exact driveDecoded_withHost h q s l
  | pushBack g => exact pushBack_withHost h q s g
  | pushFront g => exact pushFront_withHost h q s g
  | peek => rfl
  | advance c => simp only [effect, advance_withHost]; rfl
  | poll ch p now =>
    simp only [effect, polled, hclock, pollChannel_withHost]
    split <;> rfl
  | tickCheck now => simp only [effect, hclock, tickCheck_withHost]; rfl
  | duPoll now pins => exact duPoll_withHost h q s _ pins
  | rxFrame | frameOrdinary | frameAlert => exact rxFrame_withHost h q s _
  | reset u now ok => cases hi; exact resetUnit_withHost h q s _ ok
  | _ => cases hi

end WithHost

/-! The host. The mailbox is overwritten too, or left (`none`), so that one family of lemmas serves both statements. -/

/-- The state with another record of the DU, another LINK_DH and another mailbox, as far as these are given. -/
def besideHost (d : Option DuState) (q : Option (List Byte)) (m : Option Mailbox) (s : State) : State :=
  { s with
    du := d.getD s.du
    linkDH := q.getD s.linkDH
    host := { s.host with mailbox := m.getD s.host.mailbox } }

/-- The mailbox is left, or no alert is pending in it nor in the one that replaces it. -/
def AlertUnread (m : Option Mailbox) (s : State) : Prop :=
  m = none ∨ (s.host.mailbox.pending = false ∧ ∀ x ∈ m, x.pending = false)

section BesideHost

variable (d : Option DuState) (q : Option (List Byte)) (m : Option Mailbox) (s : State)

theorem raiseError_besideHost (k : ErrorKind) :
    raiseError .host k (besideHost d q m s) = besideHost d q m (raiseError .host k s) := by
  unfold raiseError
  split <;> rfl

theorem txWrite_besideHost (b : List Byte) :
    txWrite .host b (besideHost d q m s) = besideHost d q m (txWrite .host b s) := by
  have henv : (takeAnswer (besideHost d q m s)).env = (takeAnswer s).env := takeAnswer_env_congr rfl
  have hanswer : nextAnswer (besideHost d q m s) = nextAnswer s := nextAnswer_congr rfl
  cases hs : nextAnswer s with
  | ok => rw [txWrite_host_ok b hs, txWrite_host_ok b (hanswer.trans hs), henv]; rfl
  | failed n => rw [txWrite_host_failed b hs, txWrite_host_failed b (hanswer.trans hs), henv]; rfl

/-- The alert check is the one effect that reads the mailbox: it does nothing while no alert is pending. -/
theorem sendAlert_besideHost {m : Option Mailbox} {s : State} (hm : AlertUnread m s) :
    sendAlert (besideHost d q m s) = besideHost d q m (sendAlert s) := by
  obtain rfl | ⟨hpending, hm⟩ := hm
  · obtain ⟨hpending, -⟩ | ⟨hpending, -⟩ := sendAlert_cases s
    · rw [sendAlert_of_not_pending hpending, sendAlert_of_not_pending (s := besideHost d q none s) hpending]
    · rw [sendAlert_of_pending hpending, sendAlert_of_pending (s := besideHost d q none s) hpending]
      exact txWrite_besideHost d q none (alertTake s) _
  · have hpending' : (besideHost d q m s).host.mailbox.pending = false := by
      cases m with
      | none => exact hpending
      | some x => exact hm x rfl
    rw [sendAlert_of_not_pending hpending, sendAlert_of_not_pending hpending']

theorem idleCheck_besideHost (t : Time) : idleCheck t (besideHost d q m s) = besideHost d q m (idleCheck t s) := by
  have hdue : recalDue t (besideHost d q m s) = recalDue t s := rfl
  cases hd : recalDue t s <;> simp only [idleCheck, hdue, hd] <;> rfl

theorem dispatch_besideHost {m : Option Mailbox} {s : State} (hm : AlertUnread m s) (op : Opcode) (t : Time) :
    dispatch op t (besideHost d q m s) = besideHost d q m (dispatch op t s) := by
  cases op with
  | idle => simp only [dispatch, opIdle, sendAlert_besideHost d q hm, idleCheck_besideHost]
  | send | grade2 | grade1 => rfl

theorem whenPolling_besideHost {f : State → State} (hf : f (besideHost d q m s) = besideHost d q m (f s)) :
    whenPolling f (besideHost d q m s) = besideHost d q m (whenPolling f s) := by
  cases hphase : s.host.phase with
  | polling =>
    rw [whenPolling_of_polling f hphase, whenPolling_of_polling (s := besideHost d q m s) f hphase, hf]
  | capture =>
    rw [whenPolling_of_capture f hphase, whenPolling_of_capture (s := besideHost d q m s) f hphase, raiseError_besideHost]

theorem actOnLines_besideHost {m : Option Mailbox} {s : State} (hm : AlertUnread m s) (ls : List Line) (t : Time) :
    actOnLines ls t (besideHost d q m s) = besideHost d q m (actOnLines ls t s) :=
  dispatch_besideHost d q (s := s.setLastOp (selectOpcode ls)) hm _ t

theorem hostPoll_besideHost {m : Option Mailbox} {s : State} (hm : AlertUnread m s) (t : Time) :
    hostPoll t (besideHost d q m s) = besideHost d q m (hostPoll t s) := by
  refine whenPolling_besideHost d q m s ?_
  simp only [drainedLines_eq_splitLines, rxDrain_eq_splitLines]
  exact actOnLines_besideHost d q (s := s.setRxBuf .host (splitLines (s.rxBufOf .host)).2) hm _ t

theorem captureDone_besideHost (err : Bool) (cells : List Cell) (t : Time) :
    captureDone err cells t (besideHost d q m s) = besideHost d q m (captureDone err cells t s) := by
  cases hphase : s.host.phase with
  | polling =>
    rw [captureDone_of_polling hphase, captureDone_of_polling (s := besideHost d q m s) hphase, raiseError_besideHost]
  | capture =>
    rw [captureDone_of_capture hphase, captureDone_of_capture (s := besideHost d q m s) hphase]
    cases err with
    | true => exact raiseError_besideHost d q m (backToPolling t s) .recognitionError
    | false => exact txWrite_besideHost d q m (backToPolling t s) _

theorem driveDecoded_besideHost (l : Line) :
    driveDecoded .host l (besideHost d q m s) = besideHost d q m (driveDecoded .host l s) := by
  unfold driveDecoded
  split <;> rfl

/-- No host effect reads or writes the DU's record or LINK_DH; nor, but for ALERT_POST and RESET, the mailbox while no alert
is pending. -/
theorem effect_besideHost {i : Instr} {m : Option Mailbox} {s : State} (hi : (encode i).unit = .host)
    (hm : AlertUnread m s) (hmailbox : m = none ∨ (∀ lab, i ≠ .alertPost lab) ∧ ∀ now ok, i ≠ .reset .host now ok) :
    effect i (besideHost d q m s) = besideHost d q m (effect i s) := by
  cases i with
  | nop u | encode u | normalize u => cases hi; rfl
  | decode u l => cases hi; exact driveDecoded_besideHost d q m s l
  | alertPost lab =>
    obtain rfl | ⟨hpost, -⟩ := hmailbox
    · rfl
    · exact absurd rfl (hpost lab)
  | hostPoll now => exact hostPoll_besideHost d q hm _
  | captureDone err cells now => exact captureDone_besideHost d q m s err cells _
  | reset u now ok =>
    cases hi
    obtain rfl | ⟨-, hreset⟩ := hmailbox
    · cases ok <;> rfl
    · exact absurd rfl (hreset now ok)
  | opIdle now => exact whenPolling_besideHost d q m s (dispatch_besideHost d q hm .idle _)
  | opSend | opGrade2 | opGrade1 => exact whenPolling_besideHost d q m s rfl
  | ctrlSend | ctrlTrue | ctrlFalse => exact whenPolling_besideHost d q m s (actOnLines_besideHost d q hm _ _)
  | _ => cases hi

end BesideHost

/-! The statements. -/

/-- No instruction takes a byte off a link: a RESET leaves the queues, any other only appends (R301). -/
theorem exec_links_prefix {i : Instr} {s t : State} (h : exec i s = .next t) :
    s.linkHD <+: t.linkHD ∧ s.linkDH <+: t.linkDH := by
  by_cases hi : ∃ u now ok, i = .reset u now ok
  · obtain ⟨u, now, ok, rfl⟩ := hi
    obtain rfl : resetUnit u (s.clock now) ok s = t := Host.Outcome.next.inj h
    have hgrows := (resetUnit_moves u (s.clock now) ok s).grows
    cases u <;> exact ⟨hgrows.linkHD, hgrows.linkDH⟩
  · have hgrows := (exec_moves h (by simpa using hi)).grows
    exact ⟨hgrows.linkHD, hgrows.linkDH⟩

theorem exec_withHost {i : Instr} (hi : (encode i).unit = .du) (h : HostState) (q : List Byte) (s : State) :
    ∃ t, exec i s = .next t ∧ exec i (withHost h q s) = .next (withHost h q t) :=
  exists_exec_commute (w := withHost h q) (by rw [hi]; rfl) (effect_withHost h q s hi)

theorem exec_besideHost {i : Instr} {m : Option Mailbox} {s : State} (hi : (encode i).unit = .host) (hm : AlertUnread m s)
    (hmailbox : m = none ∨ (∀ lab, i ≠ .alertPost lab) ∧ ∀ now ok, i ≠ .reset .host now ok) (d : Option DuState)
    (q : Option (List Byte)) :
    ∃ t, exec i s = .next t ∧ exec i (besideHost d q m s) = .next (besideHost d q m t) :=
  exists_exec_commute (w := besideHost d q m) (by rw [hi]; rfl) (effect_besideHost d q hi hm hmailbox)

/-- A DU instruction leaves what it does not read: overwriting it with what it was changes nothing. -/
theorem exec_du_leaves_host {i : Instr} {s t : State} (hi : (encode i).unit = .du) (h : exec i s = .next t) :
    t.host = s.host ∧ t.linkHD = s.linkHD := by
  obtain ⟨t', ht', hsame⟩ := exec_withHost hi s.host s.linkHD s
  rw [withHost_self, h] at hsame
  rw [Host.Outcome.next.inj hsame]
  exact ⟨rfl, rfl⟩

theorem exec_host_leaves_du {i : Instr} {s t : State} (hi : (encode i).unit = .host) (h : exec i s = .next t) :
    t.du = s.du ∧ t.linkDH = s.linkDH := by
  obtain ⟨t', ht', hsame⟩ := exec_besideHost (s := s) hi (.inl rfl) (.inl rfl) (some s.du) (some s.linkDH)
  have hself : besideHost (some s.du) (some s.linkDH) none s = s := rfl
  rw [hself, h] at hsame
  rw [Host.Outcome.next.inj hsame]
  exact ⟨rfl, rfl⟩

/-- Settles O53: each unit's instructions commute with overwriting what is the other's. -/
theorem unitsShareNoState : Obligations.UnitsShareNoState := by
  unfold Obligations.UnitsShareNoState
  refine fun i s => ⟨fun hi => ⟨fun t ht => ?duWrites, fun h q => exec_withHost hi h q s⟩,
    fun hi => ⟨fun t ht => ?hostWrites, fun d q => ?hostReads⟩⟩
  case duWrites =>
    obtain ⟨hhost, hlink⟩ := exec_du_leaves_host hi ht
    exact ⟨hhost, hlink, (exec_links_prefix ht).2⟩
  case hostWrites =>
    obtain ⟨hdu, hlink⟩ := exec_host_leaves_du hi ht
    exact ⟨hdu, hlink, (exec_links_prefix ht).1⟩
  case hostReads => exact exec_besideHost hi (.inl rfl) (.inl rfl) (some d) (some q)

/-- A host instruction but ALERT_POST and RESET leaves an empty mailbox as it is. -/
theorem exec_leaves_empty_mailbox {i : Instr} {s t : State} (hi : (encode i).unit = .host)
    (hpending : s.host.mailbox.pending = false) (hpost : ∀ lab, i ≠ .alertPost lab)
    (hreset : ∀ now ok, i ≠ .reset .host now ok) (h : exec i s = .next t) : t.host.mailbox = s.host.mailbox := by
  obtain ⟨t', ht', hsame⟩ := exec_besideHost (m := some s.host.mailbox) (s := s) hi
    (.inr ⟨hpending, fun x hx => by cases hx; exact hpending⟩) (.inr ⟨hpost, hreset⟩) none none
  have hself : besideHost none none (some s.host.mailbox) s = s := rfl
  rw [hself, h] at hsame
  rw [Host.Outcome.next.inj hsame]
  rfl

/-- The state with another label in the mailbox. -/
def relabel (lab : Label) (s : State) : State :=
  { s with host := { s.host with mailbox := { s.host.mailbox with label := lab } } }

/-- Where an instruction leads from a state and from the state with another label: to states that differ at most in the label,
and not even there once an alert is pending. -/
def LabelUnread (i : Instr) (lab : Label) (s : State) : Prop :=
  ∃ (t : State) (lab' : Label), exec i s = .next t ∧ exec i (relabel lab s) = .next (relabel lab' t) ∧
    (t.host.mailbox.pending = true → lab' = t.host.mailbox.label)

theorem labelUnread_of_du {i : Instr} (hi : (encode i).unit = .du) {s : State} (hpending : s.host.mailbox.pending = false)
    (lab : Label) : LabelUnread i lab s := by
  obtain ⟨t, ht, hrelabelled⟩ := exec_withHost hi (relabel lab s).host s.linkHD s
  obtain ⟨hhost, hlink⟩ := exec_du_leaves_host hi ht
  have hsame : withHost (relabel lab s).host s.linkHD t = relabel lab t := by simp [withHost, relabel, ← hhost, ← hlink]
  exact ⟨t, lab, ht, hsame ▸ hrelabelled, by simp [hhost, hpending]⟩

/-- The mailbox is overwritten, so both states lead to the same one. -/
theorem labelUnread_of_same {i : Instr} {lab : Label} {s t : State} (h : exec i s = .next t)
    (h' : exec i (relabel lab s) = .next t) : LabelUnread i lab s := ⟨t, t.host.mailbox.label, h, h', fun _ => rfl⟩

theorem labelUnread_alertPost {s : State} (hpending : s.host.mailbox.pending = false) (posted lab : Label) :
    LabelUnread (.alertPost posted) lab s := by
  cases hrun : s.host.run with
  | running =>
    exact labelUnread_of_same (exec_of_running (i := .alertPost posted) hrun)
      (exec_of_running (i := .alertPost posted) (s := relabel lab s) hrun)
  | fatal =>
    exact ⟨s, lab, exec_of_fatal (i := .alertPost posted) hrun nofun,
      exec_of_fatal (i := .alertPost posted) (s := relabel lab s) hrun nofun, by simp [hpending]⟩

theorem labelUnread_of_host {i : Instr} (hi : (encode i).unit = .host) {s : State}
    (hpending : s.host.mailbox.pending = false) (hpost : ∀ lab, i ≠ .alertPost lab)
    (hreset : ∀ now ok, i ≠ .reset .host now ok) (lab : Label) : LabelUnread i lab s := by
  obtain ⟨t, ht, hrelabelled⟩ := exec_besideHost (m := some (relabel lab s).host.mailbox) (s := s) hi
    (.inr ⟨hpending, fun x hx => by cases hx; exact hpending⟩) (.inr ⟨hpost, hreset⟩) none none
  have hmailbox := exec_leaves_empty_mailbox hi hpending hpost hreset ht
  have hsame : besideHost none none (some (relabel lab s).host.mailbox) t = relabel lab t := by
    simp [besideHost, relabel, hmailbox]
  exact ⟨t, lab, ht, hsame ▸ hrelabelled, by simp [hmailbox, hpending]⟩

/-- Settles O56: a DU instruction does not read the host's record; ALERT_POST and RESET overwrite the mailbox; every other
host instruction commutes with overwriting an empty one. -/
theorem labelIsNotReadWithoutAPendingAlert : Obligations.LabelIsNotReadWithoutAPendingAlert := by
  unfold Obligations.LabelIsNotReadWithoutAPendingAlert
  intro i lab s hpending
  change LabelUnread i lab s
  cases hunit : (encode i).unit with
  | du => exact labelUnread_of_du hunit hpending lab
  | host =>
    by_cases hpost : ∃ posted, i = .alertPost posted
    · obtain ⟨posted, rfl⟩ := hpost
      exact labelUnread_alertPost hpending posted lab
    · by_cases hreset : ∃ now ok, i = .reset .host now ok
      · obtain ⟨now, ok, rfl⟩ := hreset
        exact labelUnread_of_same (exec_reset .host now ok s) (exec_reset .host now ok (relabel lab s))
      · exact labelUnread_of_host hunit hpending (by simpa using hpost) (by simpa using hreset) lab

end Sys2Proof.Machine
end

section
/-!
PROOFS, family other: who writes the mode flag and the grade (R27, R32), and how entries stay in the FIFO (R253).
-/

namespace Sys2Proof.Machine

/-! What POLL leaves: the FIFO, and for SEND and NEXT the mode flag. -/

@[simp] theorem sampled_du_fifo (i : Channel) (ph : Phase) (p : Bool) (s : State) :
    (sampled i ph p s).du.fifo = s.du.fifo := by
  obtain ⟨_, _, heq⟩ := sampled_frame i ph p s
  rw [heq]

@[simp] theorem sampled_modeFlag (i : Channel) (ph : Phase) (p : Bool) (s : State) :
    (sampled i ph p s).du.modeFlag = s.du.modeFlag := by
  obtain ⟨_, _, heq⟩ := sampled_frame i ph p s
  rw [heq]

@[simp] theorem pressOpened_du_fifo (i : Channel) (t : Time) (s : State) :
    (pressOpened i t s).du.fifo = s.du.fifo := by
  obtain ⟨_, _, heq⟩ := openWindow_frame i t ((sampled i .pressed false (s.setPulse i false)).setPulse i true)
  rw [pressOpened, heq]
  simp

@[simp] theorem txWrite_du_fifo (b : List Byte) (s : State) : (txWrite .du b s).du.fifo = s.du.fifo := by
  obtain ⟨-, _, _, hdu⟩ := txWrite_du_frame b s
  rw [hdu]

@[simp] theorem txWrite_modeFlag (b : List Byte) (s : State) : (txWrite .du b s).du.modeFlag = s.du.modeFlag := by
  obtain ⟨-, _, _, hdu⟩ := txWrite_du_frame b s
  rw [hdu]

@[simp] theorem press_du_fifo (i : Channel) (t : Time) (s : State) : (press i t s).du.fifo = s.du.fifo := by
  cases i <;> simp [press, modeToggle]

theorem press_modeFlag {i : Channel} (hi : i ≠ .mode) (t : Time) (s : State) :
    (press i t s).du.modeFlag = s.du.modeFlag := by
  cases i with
  | mode => exact absurd rfl hi
  | send | next => simp [press]

@[simp] theorem pollChannel_du_fifo (i : Channel) (p : Bool) (t : Time) (s : State) :
    (pollChannel i p t s).du.fifo = s.du.fifo := by
  rw [pollChannel_eq]
  split
  · rfl
  · split <;> simp

theorem pollChannel_modeFlag {i : Channel} (hi : i ≠ .mode) (p : Bool) (t : Time) (s : State) :
    (pollChannel i p t s).du.modeFlag = s.du.modeFlag := by
  rw [pollChannel_eq]
  split
  · rfl
  · split
    · exact press_modeFlag hi t s
    · simp

theorem field_of_channelOfField {ch : BitVec 2} {i : Channel} (h : channelOfField ch = some i) : ch = i.field := by
  cases i <;> (revert ch; decide)

/-! The mode flag. -/

theorem raiseError_du_modeFlag (k : ErrorKind) (s : State) : (raiseError .du k s).du.modeFlag = s.du.modeFlag := by
  unfold raiseError
  split <;> rfl

theorem pushBack_modeFlag (g : Grid) (s : State) : (pushBack g s).du.modeFlag = s.du.modeFlag := by
  obtain ⟨-, h⟩ | ⟨-, h⟩ := pushBack_cases g s <;> rw [h]

theorem pushFront_modeFlag (g : Grid) (s : State) : (pushFront g s).du.modeFlag = s.du.modeFlag := by
  obtain ⟨-, h⟩ | ⟨-, h⟩ := pushFront_cases g s <;> rw [h]

theorem rxFrame_modeFlag (l : Line) (s : State) : (rxFrame l s).du.modeFlag = s.du.modeFlag := by
  obtain ⟨_, -, h⟩ | ⟨g, -, h⟩ | ⟨g, -, h⟩ := rxFrame_cases l s <;> rw [h]
  · exact pushFront_modeFlag g _
  · exact pushBack_modeFlag g s

theorem tickCheck_modeFlag (t : Time) (s : State) : (tickCheck t s).du.modeFlag = s.du.modeFlag := by
  obtain ⟨-, h⟩ | ⟨-, h⟩ := tickCheck_cases t s <;> rw [h]

theorem driveDecoded_eq_setOut (u : UnitId) (l : Line) (s : State) : ∃ x, driveDecoded u l s = s.setOut u x := by
  unfold driveDecoded
  split <;> exact ⟨_, rfl⟩

theorem effect_modeFlag {i : Instr} (hunit : (encode i).unit = .du) (hpoll : ∀ p now, i ≠ .poll 1#2 p now)
    (hduPoll : ∀ now pins, i ≠ .duPoll now pins) (hreset : ∀ now ok, i ≠ .reset .du now ok) (s : State) :
    (effect i s).du.modeFlag = s.du.modeFlag := by
  cases i with
  | nop | peek => rfl
  | encode u | normalize u => cases hunit; rfl
  | decode u l =>
    cases hunit
    obtain ⟨x, hx⟩ := driveDecoded_eq_setOut .du l s
    exact congrArg (fun s => s.du.modeFlag) hx
  | pushBack g => exact pushBack_modeFlag g s
  | pushFront g => exact pushFront_modeFlag g s
  | advance c => cases c <;> rfl
  | poll ch p now =>
    simp only [effect]
    split
    next j hj =>
      have hmode : j ≠ .mode := by
        rintro rfl
        exact hpoll p now (by rw [field_of_channelOfField hj]; rfl)
      exact pollChannel_modeFlag hmode p _ s
    next => exact raiseError_du_modeFlag _ s
  | tickCheck now => exact tickCheck_modeFlag _ s
  | duPoll now pins => exact absurd rfl (hduPoll now pins)
  | rxFrame | frameOrdinary | frameAlert => exact rxFrame_modeFlag _ s
  | reset u now ok => cases hunit; exact absurd rfl (hreset now ok)
  | _ => cases hunit

/-! The grade. -/

theorem raiseError_host_grade (k : ErrorKind) (s : State) : (raiseError .host k s).host.grade = s.host.grade := by
  unfold raiseError
  split <;> rfl

theorem txWrite_host_grade (b : List Byte) (s : State) : (txWrite .host b s).host.grade = s.host.grade := by
  cases h : nextAnswer s with
  | ok => rw [txWrite_host_ok b h]
  | failed n => rw [txWrite_host_failed b h]

theorem whenPolling_grade {f : State → State} {s : State} (hf : (f s).host.grade = s.host.grade) :
    (whenPolling f s).host.grade = s.host.grade := by
  obtain ⟨-, h⟩ | ⟨-, h⟩ := whenPolling_cases f s <;> rw [h]
  exact hf

theorem opIdle_grade (t : Time) (s : State) : (opIdle t s).host.grade = s.host.grade := by
  have hsent : (sendAlert s).host.grade = s.host.grade := by
    obtain ⟨-, h⟩ | ⟨-, h⟩ := sendAlert_cases s <;> rw [h]
    · rfl
    · exact txWrite_host_grade _ (alertTake s)
  obtain ⟨-, h⟩ | ⟨-, h⟩ := idleCheck_cases t (sendAlert s) <;> rw [opIdle, h] <;> exact hsent

theorem captureDone_grade (err : Bool) (cells : List Cell) (t : Time) (s : State) :
    (captureDone err cells t s).host.grade = s.host.grade := by
  cases hphase : s.host.phase with
  | polling => rw [captureDone_of_polling hphase, raiseError_host_grade]
  | capture =>
    rw [captureDone_of_capture hphase]
    split
    · exact raiseError_host_grade _ (backToPolling t s)
    · exact txWrite_host_grade _ (backToPolling t s)

theorem effect_grade {i : Instr} (hunit : (encode i).unit = .host)
    (hi : ∀ now, i ≠ .opGrade2 now ∧ i ≠ .opGrade1 now ∧ i ≠ .hostPoll now ∧ i ≠ .ctrlTrue now ∧ i ≠ .ctrlFalse now)
    (hreset : ∀ now ok, i ≠ .reset .host now ok) (s : State) : (effect i s).host.grade = s.host.grade := by
  cases i with
  | nop | alertPost => rfl
  | encode u | normalize u => cases hunit; rfl
  | decode u l =>
    cases hunit
    obtain ⟨x, hx⟩ := driveDecoded_eq_setOut .host l s
    exact congrArg (fun s => s.host.grade) hx
  | captureDone err cells now => exact captureDone_grade err cells _ s
  | reset u now ok => cases hunit; exact absurd rfl (hreset now ok)
  | opIdle now => exact whenPolling_grade (opIdle_grade _ s)
  | opSend | ctrlSend => exact whenPolling_grade rfl
  | hostPoll now | opGrade2 now | opGrade1 now | ctrlTrue now | ctrlFalse now => simp at hi
  | _ => cases hunit

/-- Settles O54: an instruction of the other unit does not write the field at all, and of the own unit only those named. -/
theorem modeAndGradeHaveFewWriters : Obligations.ModeAndGradeHaveFewWriters := by
  unfold Obligations.ModeAndGradeHaveFewWriters
  refine fun i s t h => ⟨fun hpoll hduPoll hreset => ?modeFlag, fun hi hreset => ?grade⟩ <;>
    cases hunit : (encode i).unit
  case modeFlag.du =>
    exact exec_induction h (P := fun t => t.du.modeFlag = s.du.modeFlag) (effect_modeFlag hunit hpoll hduPoll hreset s) rfl
  case modeFlag.host => rw [(exec_host_leaves_du hunit h).1]
  case grade.du => rw [(exec_du_leaves_host hunit h).1]
  case grade.host =>
    exact exec_induction h (P := fun t => t.host.grade = s.host.grade) (effect_grade hunit hi hreset s) rfl

/-! The FIFO's entries. -/

/-- Every entry of `s` stays in `t`, in order; or a full FIFO took one Grid at the front and lost what its depth does not
hold, with OVF set (R172, R253). -/
def EntriesStay (s t : State) : Prop :=
  s.du.fifo.Sublist t.du.fifo ∨
    ∃ g n, FifoFull s n ∧ t.du.fifo = g :: s.du.fifo.take (n - 1) ∧ t.du.status.getLsbD 1 = true

theorem entriesStay_of_eq {s t : State} (h : t.du.fifo = s.du.fifo) : EntriesStay s t := .inl (h ▸ List.Sublist.refl _)

theorem exists_full_of_no_room {s : State} (h : hasRoom s = false) : ∃ n, FifoFull s n := by
  cases hdepth : s.cfg.fifoDepth with
  | unbounded => simp [hasRoom, hdepth] at h
  | bounded n => exact ⟨n, hdepth, by simpa [hasRoom, hdepth] using h⟩

theorem pushBack_entriesStay (g : Grid) (s : State) : EntriesStay s (pushBack g s) := by
  obtain ⟨-, h⟩ | ⟨-, h⟩ := pushBack_cases g s <;> rw [h]
  · exact .inl (List.sublist_append_left _ _)
  · exact entriesStay_of_eq rfl

theorem pushFront_entriesStay (g : Grid) (s : State) : EntriesStay s (pushFront g s) := by
  obtain ⟨-, h⟩ | ⟨hroom, -⟩ := pushFront_cases g s
  · rw [h]
    exact .inl (List.sublist_cons_self _ _)
  · obtain ⟨n, hfull⟩ := exists_full_of_no_room hroom
    rw [pushFront_of_full hfull]
    exact .inr ⟨g, n, hfull, rfl, by simp [DU_OVF]⟩

theorem rxFrame_entriesStay (l : Line) (s : State) : EntriesStay s (rxFrame l s) := by
  obtain ⟨_, -, h⟩ | ⟨g, -, h⟩ | ⟨g, -, h⟩ := rxFrame_cases l s <;> rw [h]
  · exact entriesStay_of_eq rfl
  · exact pushFront_entriesStay g (s.emit .du .buzz)
  · exact pushBack_entriesStay g s

theorem tickCheck_du_fifo (t : Time) (s : State) : (tickCheck t s).du.fifo = s.du.fifo := by
  obtain ⟨-, h⟩ | ⟨-, h⟩ := tickCheck_cases t s <;> rw [h]

theorem effect_entriesStay {i : Instr} (hunit : (encode i).unit = .du) (hadvance : i ≠ .advance true)
    (hduPoll : ∀ now pins, i ≠ .duPoll now pins) (hreset : ∀ now ok, i ≠ .reset .du now ok) (s : State) :
    EntriesStay s (effect i s) := by
  cases i with
  | nop | peek => exact entriesStay_of_eq rfl
  | encode u | normalize u => cases hunit; exact entriesStay_of_eq rfl
  | decode u l =>
    cases hunit
    obtain ⟨x, hx⟩ := driveDecoded_eq_setOut .du l s
    exact entriesStay_of_eq (congrArg (fun s => s.du.fifo) hx)
  | pushBack g => exact pushBack_entriesStay g s
  | pushFront g => exact pushFront_entriesStay g s
  | advance c =>
    cases c with
    | false => exact entriesStay_of_eq rfl
    | true => exact absurd rfl hadvance
  | poll ch p now =>
    simp only [effect]
    split
    next j hj => exact entriesStay_of_eq (pollChannel_du_fifo j p _ s)
    next => exact entriesStay_of_eq (by rw [raiseIllegal_du_eq])
  | tickCheck now => exact entriesStay_of_eq (tickCheck_du_fifo _ s)
  | duPoll now pins => exact absurd rfl (hduPoll now pins)
  | rxFrame | frameOrdinary | frameAlert => exact rxFrame_entriesStay _ s
  | reset u now ok => cases hunit; exact absurd rfl (hreset now ok)
  | _ => cases hunit

/-- Settles O55: of the DU's instructions but those named only the pushes write the FIFO; the host's write nothing of the
DU's. -/
theorem fifoEntriesStay : Obligations.FifoEntriesStay := by
  unfold Obligations.FifoEntriesStay
  intro i s t h hadvance hduPoll hreset
  change EntriesStay s t
  cases hunit : (encode i).unit with
  | du => exact exec_induction h (effect_entriesStay hunit hadvance hduPoll hreset s) (entriesStay_of_eq rfl)
  | host => exact entriesStay_of_eq (by rw [(exec_host_leaves_du hunit h).1])

end Sys2Proof.Machine
end

section
/-!
PROOFS, family other: the link over many steps (R65, R71), and a captured text on its whole way to the DU's FIFO (R210, R65,
R244, R117).
-/

namespace Sys2Proof.Machine

/-! As many LINK steps as there are bytes. -/

theorem linkSteps_cons (l : Link) (noise : Option Byte) (noises : List (Option Byte)) (s : State) :
    linkSteps l (noise :: noises) s = linkSteps l noises (linkStep l noise s) := rfl

/-- The state after the first bytes of a link have been delivered: `q` is left on it. -/
def delivered (l : Link) (bs q : List Byte) (s : State) : State :=
  (s.setLink l q).setRxBuf (receiver l) (s.rxBufOf (receiver l) ++ bs)

theorem delivered_nil {l : Link} {q : List Byte} {s : State} (h : s.linkOf l = q) : delivered l [] q s = s := by
  subst h
  cases l <;> simp [delivered, receiver, State.setLink, State.setRxBuf]

theorem delivered_delivered (l : Link) (as bs q r : List Byte) (s : State) :
    delivered l bs r (delivered l as q s) = delivered l (as ++ bs) r s := by
  cases l <;> simp [delivered, receiver, State.setLink, State.setRxBuf]

@[simp] theorem delivered_runOf (l : Link) (bs q : List Byte) (u : UnitId) (s : State) :
    (delivered l bs q s).runOf u = s.runOf u := by cases l <;> cases u <;> rfl

@[simp] theorem delivered_linkOf (l : Link) (bs q : List Byte) (s : State) : (delivered l bs q s).linkOf l = q := by
  cases l <;> rfl

@[simp] theorem delivered_cfg (l : Link) (bs q : List Byte) (s : State) : (delivered l bs q s).cfg = s.cfg := by
  cases l <;> rfl

theorem linkSteps_eq_delivered {l : Link} {bs q : List Byte} {noises : List (Option Byte)} {s : State}
    (hnone : s.cfg.linkCorruption = .none) (hlength : noises.length = bs.length)
    (hrun : s.runOf (receiver l) = .running) (hlink : s.linkOf l = bs ++ q) :
    linkSteps l noises s = delivered l bs q s := by
  induction bs generalizing noises s with
  | nil =>
    obtain rfl := List.eq_nil_of_length_eq_zero hlength
    exact (delivered_nil hlink).symm
  | cons b bs ih =>
    obtain ⟨noise, noises, rfl⟩ := List.exists_cons_of_length_eq_add_one hlength
    have hfirst : linkStep l noise s = delivered l [b] (bs ++ q) s := by
      rw [linkStep_of_running_cons (q := bs ++ q) hrun hlink, deliveredByte_of_none hnone, delivered]
    rw [linkSteps_cons, hfirst, ih (by simpa using hnone) (by simpa using hlength) (by simpa using hrun) (by simp),
      delivered_delivered, List.singleton_append]

/-- Settles O58: by induction on the bytes; each step delivers the first one as it was sent. -/
theorem linkDeliversInOrder : Obligations.LinkDeliversInOrder := by
  unfold Obligations.LinkDeliversInOrder
  intro bs q noises s hnone hlength
  exact ⟨fun hrun hlink => linkSteps_eq_delivered (l := .hd) hnone hlength hrun hlink,
    fun hrun hlink => linkSteps_eq_delivered (l := .dh) hnone hlength hrun hlink⟩

/-! DU_POLL with one ordinary frame waiting and no press of NEXT. -/

theorem LF_not_mem_frameLine (h : Bool) (g : Grid) : LF ∉ frameLine h g := fun hmem =>
  absurd (isBitChar_of_mem_frameLine hmem) (by decide)

theorem pollButtons_du_fifo (t : Time) (pins : BitVec 3) (s : State) :
    (pollButtons t pins s).du.fifo = s.du.fifo := by simp [pollButtons]

theorem pollButtons_pulse_next {pins : BitVec 3} (h : pins.getLsbD 2 = true) (t : Time) (s : State) :
    (pollButtons t pins s).du.pulse.next = false :=
  pollChannel_pulse_of_no_press (i := .next) (.inr h) t

theorem refresh_frame (t : Time) (s : State) :
    (refresh t s).du.rxBuf = s.du.rxBuf ∧ (refresh t s).du.fifo = s.du.fifo := by
  unfold refresh
  split
  next hfires => rw [tickCheck_of_fires hfires]; exact ⟨rfl, rfl⟩
  next => exact ⟨rfl, rfl⟩

theorem duPoll_one_frame {s : State} {g : Grid} {pins : BitVec 3} (hbuf : s.du.rxBuf = frameBytes false g)
    (hroom : FifoHasRoom s) (hpin : pins.getLsbD 2 = true) (t : Time) :
    (duPoll t pins s).du.rxBuf = [] ∧ (duPoll t pins s).du.fifo = s.du.fifo ++ [g] := by
  have hlines : s.du.rxBuf = joinLines [frameLine false g] ++ [] := by rw [hbuf]; simp [joinLines, frameBytes]
  let polledState : State := (pollButtons t pins s).setRxBuf .du []
  have hroom' : FifoHasRoom polledState := by
    have hcfg : polledState.cfg = s.cfg := pollButtons_cfg t pins s
    have hfifo : polledState.du.fifo = s.du.fifo := pollButtons_du_fifo t pins s
    rwa [FifoHasRoom, hcfg, hfifo]
  have hreceived : duReceived t pins [frameLine false g] [] s = polledState.setFifo (s.du.fifo ++ [g]) := by
    rw [duReceived, pollButtons_pulse_next hpin, advance_false, rxFrames_cons, rxFrame_ordinary,
      pushBack_of_room hroom', ← pollButtons_du_fifo t pins s]
    rfl
  obtain ⟨hrx, hfifo⟩ := refresh_frame t (duReceived t pins [frameLine false g] [] s)
  rw [duPoll_eq_refresh_duReceived hlines (by simpa using LF_not_mem_frameLine false g) (by simp), hrx, hfifo, hreceived]
  exact ⟨rfl, rfl⟩

/-- Settles O60: the capture puts the frame on the empty link, the LINK steps bring it to the empty buffer, and DU_POLL takes
it from there to the back of the FIFO. -/
theorem capturedTextReachesTheFifo : Obligations.CapturedTextReachesTheFifo := by
  unfold Obligations.CapturedTextReachesTheFifo
  intro cells now now' pins noises s hhost hphase hok hdu hnone hlink hbuf hroom hlength hpin
  obtain ⟨g, hg, hcapture, -⟩ := captureDoneSendsOneFrame cells now s hhost hphase
  obtain ⟨t, ht, htdu, htcfg, htlink⟩ : ∃ t, exec (.captureDone false cells now) s = .next t ∧ t.du = s.du ∧
      t.cfg = s.cfg ∧ t.linkHD = frameBytes false g := ⟨_, hcapture hok, rfl, rfl, by simp [hlink]⟩
  let arrived : State := delivered .hd (frameBytes false g) [] t
  have hsteps : linkSteps .hd noises t = arrived :=
    linkSteps_eq_delivered (by rw [htcfg, hnone]) (by simpa using hlength) (by simpa [receiver, htdu] using hdu)
      (by simpa using htlink)
  have hrun : arrived.du.run = .running := by rw [← hdu, ← htdu]; rfl
  have hfifo : arrived.du.fifo = s.du.fifo := by rw [← htdu]; rfl
  have hrx : arrived.du.rxBuf = frameBytes false g := by
    have hnew : arrived.du.rxBuf = t.du.rxBuf ++ frameBytes false g := rfl
    rw [hnew, htdu, hbuf, List.nil_append]
  have hroom' : FifoHasRoom arrived := by
    have hcfg : arrived.cfg = s.cfg := htcfg
    rwa [FifoHasRoom, hcfg, hfifo]
  have hpoll := exec_duPoll_of_running hrun now' pins
  obtain ⟨hempty, hpushed⟩ := duPoll_one_frame hrx hroom' hpin (arrived.clock now')
  exact ⟨t, _, g, ht, hsteps ▸ hpoll, (exec_du_leaves_host rfl hpoll).2, hempty, by rw [hpushed, hfifo], hg⟩

end Sys2Proof.Machine
end
